-- ==== Sys2Proof/Word.lean ====
section
/-! DEFINITION. The word types of the block (`00_scope.md` R8, `30_encoding.md` R60) and the raw, undecoded form of what a
row of the opcode table stands for. -/

namespace Sys2Proof

/-- A byte: an unsigned 8-bit value (R8). -/
abbrev Byte := BitVec 8

/-- A word16: an unsigned 16-bit value (R8). -/
abbrev Word16 := BitVec 16

/-- The 13-bit operation word `OPW[12:0]` (R60). -/
abbrev OpWord := BitVec 13

/-- What the host presents, before decoding: an operation word at the operation interface (format `OPW`, R60) or one control
byte that it sends on the serial line (format `WIRE8` of the table, R68 to R70). The two are different channels: the same bits
mean different things on each. -/
inductive RawInstr where
  | opw (w : OpWord)
  | wire (b : Byte)
  deriving DecidableEq, Repr

end Sys2Proof
end

