-- ==== Sys2Proof/Config.lean ====
section
/-! DEFINITION. The read-only configuration of the block (`00_scope.md` R5, `10_state.md` R28 to R30): the seven status masks,
the capacity of the input buffer, and the open CRC16 step. -/

namespace Sys2Proof

/-- The configuration that is plain data (R28): the status mask registers of R29 and `BUF_CAP` of R5, `none` for an unbounded
capacity. No operation and no reset writes it. -/
structure Config where
  mskOnline     : Byte
  mskPaperEmpty : Byte
  mskCtrlError  : Byte
  mskFiscal     : Byte
  mskCmdOk      : Byte
  mskInTrans    : Byte
  mskXferOk     : Byte
  bufCap        : Option Nat
  deriving DecidableEq, Repr

/-- The default masks of R5 and R29. DESIGN CHOICE (log 4): `BUF_CAP` has no default in the spec, which calls unbounded
acceptable. -/
def Config.default : Config where
  mskOnline     := 0x04
  mskPaperEmpty := 0x02
  mskCtrlError  := 0x01
  mskFiscal     := 0x08
  mskCmdOk      := 0x04
  mskInTrans    := 0x02
  mskXferOk     := 0x01
  bufCap        := none

/-- `crc16_step` of R5 and R105: the per-byte CRC16 step, with the tables `CRC_TAB_HI` and `CRC_TAB_LO` of R30 as its internals.
It is total and depends on the accumulator and the byte only; nothing else of it is known, so it has no body (log 5). -/
opaque Config.crc16Step : Word16 → Byte → Word16

end Sys2Proof
end

