-- ==== Sys2Proof/Syntax.lean ====
section
/-! DEFINITION. The instructions: one constructor per row of `spec/opcode_table.json`. An operation that ignores `DIN` has no
field for it (`30_encoding.md` R61, R83). -/

namespace Sys2Proof

/-- The 20 operations of R60 and the three control bytes of R68 to R70. -/
inductive Instr where
  /-- `X8.INIT`, R90. -/
  | x8Init
  /-- `X8.UPD DIN`, R91. -/
  | x8Upd (din : Byte)
  /-- `X8.HEX`, R92. -/
  | x8Hex
  /-- `X8.SUM`, R93. -/
  | x8Sum
  /-- `X8.VFY`, R94. -/
  | x8Vfy
  /-- `C16.INIT`, R100. -/
  | c16Init
  /-- `C16.UPD DIN`, R101. -/
  | c16Upd (din : Byte)
  /-- `C16.HEX`, R102. -/
  | c16Hex
  /-- `C16.SUM`, R103. -/
  | c16Sum
  /-- `C16.VFY`, R104. -/
  | c16Vfy
  /-- `FA.ENC`, R110. -/
  | faEnc
  /-- `FA.DEC`, R112. -/
  | faDec
  /-- `FB.ENC`, R120. -/
  | fbEnc
  /-- `FB.DEC`, R122. -/
  | fbDec
  /-- `ST.DECA DIN`, R130. -/
  | stDecA (din : Byte)
  /-- `ST.DECB DIN`, R131. -/
  | stDecB (din : Byte)
  /-- `ST.NOREPLY`, R132. -/
  | stNoReply
  /-- `BUF.PUT DIN`, R140. -/
  | bufPut (din : Byte)
  /-- `BUF.CLR`, R141. -/
  | bufClr
  /-- `SYS.RESET`, R142. -/
  | sysReset
  /-- `WIRE.PROBE_A`: the control byte `0x10` on the line, R68. -/
  | wireProbeA
  /-- `WIRE.PROBE_B`: the control byte `0x05` on the line, R69. -/
  | wireProbeB
  /-- `WIRE.CANCEL`: the control byte `0x18` on the line, R70. -/
  | wireCancel
  deriving DecidableEq, Repr

/-- The instruction is one of the block's 20 operations (R60), not a control byte of the line: "wire control byte, not an
operation of the block" (the table's own note). -/
def Instr.isOperation : Instr → Bool
  | .x8Init => true
  | .x8Upd _ => true
  | .x8Hex => true
  | .x8Sum => true
  | .x8Vfy => true
  | .c16Init => true
  | .c16Upd _ => true
  | .c16Hex => true
  | .c16Sum => true
  | .c16Vfy => true
  | .faEnc => true
  | .faDec => true
  | .fbEnc => true
  | .fbDec => true
  | .stDecA _ => true
  | .stDecB _ => true
  | .stNoReply => true
  | .bufPut _ => true
  | .bufClr => true
  | .sysReset => true
  | .wireProbeA => false
  | .wireProbeB => false
  | .wireCancel => false

end Sys2Proof
end

