-- ==== Sys2Proof/WellFormed.lean ====
section
/-! DEFINITION. What is well formed: an operation word (its code is not reserved, `30_encoding.md` R78), a control byte (one of
R68 to R70), an instruction, a configuration (`10_state.md` R29, `70_reset_and_hazards.md` R174). -/

namespace Sys2Proof

/-- The 12 reserved operation codes of R78. -/
def reservedCodes : List (BitVec 5) :=
  [0x05, 0x06, 0x07, 0x0D, 0x0E, 0x0F, 0x14, 0x15, 0x16, 0x17, 0x1E, 0x1F]

/-- The operation code `OP = OPW[12:8]` (R60). -/
def OpWord.op (w : OpWord) : BitVec 5 := w.extractLsb' 8 5

/-- The immediate `DIN = OPW[7:0]` (R60). -/
def OpWord.din (w : OpWord) : Byte := w.extractLsb' 0 8

/-- A raw instruction is well formed when its code is not reserved (R78), or its byte is one of the three control bytes. -/
def RawInstr.wellFormed : RawInstr → Bool
  | .opw w => !reservedCodes.contains (OpWord.op w)
  | .wire b => b == 0x10 || b == 0x05 || b == 0x18

/-- Every instruction term is well formed: the only operand is the 8-bit `DIN`, and R61 gives no value of it that is
illegal. The checks on encodings are those of `RawInstr.wellFormed`. -/
def Instr.wellFormed (_ : Instr) : Bool := true

/-- The masks of one set are pairwise different (R29). -/
def maskSetA (c : Config) : Bool :=
  c.mskOnline != c.mskPaperEmpty && c.mskOnline != c.mskCtrlError && c.mskPaperEmpty != c.mskCtrlError

/-- The masks of set B are pairwise different (R29). -/
def maskSetB (c : Config) : Bool :=
  c.mskFiscal != c.mskCmdOk && c.mskFiscal != c.mskInTrans && c.mskFiscal != c.mskXferOk &&
    c.mskCmdOk != c.mskInTrans && c.mskCmdOk != c.mskXferOk && c.mskInTrans != c.mskXferOk

/-- The legal values of a mask of set A (R29). -/
def legalMasksA : List Byte := [0x01, 0x02, 0x04]

/-- The legal values of a mask of set B (R29). -/
def legalMasksB : List Byte := [0x01, 0x02, 0x04, 0x08]

/-- The configuration is legal (R29, R174): each mask has a legal value, the masks of one set differ pairwise, and the
capacity is at least 7 or unbounded (R5). -/
def Config.legal (c : Config) : Bool :=
  legalMasksA.contains c.mskOnline && legalMasksA.contains c.mskPaperEmpty && legalMasksA.contains c.mskCtrlError &&
    legalMasksB.contains c.mskFiscal && legalMasksB.contains c.mskCmdOk && legalMasksB.contains c.mskInTrans &&
    legalMasksB.contains c.mskXferOk && maskSetA c && maskSetB c &&
    match c.bufCap with
    | none => true
    | some n => Nat.ble 7 n

end Sys2Proof
end

