-- ==== Sys2Proof/Decode.lean ====
section
/-! DEFINITION. Decoding and encoding (`30_encoding.md` R60, R61, R68 to R70, R78). The decoder is total: a reserved operation
code and an unknown control byte are rejected by name. -/

namespace Sys2Proof

/-- Why a raw instruction has no instruction. -/
inductive DecodeError where
  /-- One of the 12 reserved operation codes (R78). The step performs the fault entry with `ILLEGAL_OP` (R154). -/
  | reservedCode (op : BitVec 5)
  /-- A byte that is none of the control bytes of R68 to R70. -/
  | notAControlByte (b : Byte)
  deriving DecidableEq, Repr

/-- The table of R60 over the two fields of the operation word. `DIN` is used by five operations and ignored by the others
(R61). -/
def decodeFields (op : BitVec 5) (din : Byte) : Except DecodeError Instr :=
  match op.toNat with
  | 0x00 => .ok .x8Init
  | 0x01 => .ok (.x8Upd din)
  | 0x02 => .ok .x8Hex
  | 0x03 => .ok .x8Sum
  | 0x04 => .ok .x8Vfy
  | 0x08 => .ok .c16Init
  | 0x09 => .ok (.c16Upd din)
  | 0x0A => .ok .c16Hex
  | 0x0B => .ok .c16Sum
  | 0x0C => .ok .c16Vfy
  | 0x10 => .ok .faEnc
  | 0x11 => .ok .faDec
  | 0x12 => .ok .fbEnc
  | 0x13 => .ok .fbDec
  | 0x18 => .ok (.stDecA din)
  | 0x19 => .ok (.stDecB din)
  | 0x1A => .ok .stNoReply
  | 0x1B => .ok (.bufPut din)
  | 0x1C => .ok .bufClr
  | 0x1D => .ok .sysReset
  | _ => .error (.reservedCode op)

/-- R60: a decoder matches `OPW and 0x1F00`, so the code is bits 12 to 8 and the immediate bits 7 to 0. -/
def decodeOpw (w : OpWord) : Except DecodeError Instr := decodeFields (OpWord.op w) (OpWord.din w)

/-- The three control bytes of R68, R69 and R70. -/
def decodeWire (b : Byte) : Except DecodeError Instr :=
  match b.toNat with
  | 0x10 => .ok .wireProbeA
  | 0x05 => .ok .wireProbeB
  | 0x18 => .ok .wireCancel
  | _ => .error (.notAControlByte b)

/-- The decoder, on either channel. -/
def decode : RawInstr → Except DecodeError Instr
  | .opw w => decodeOpw w
  | .wire b => decodeWire b

/-- An operation word from its code and its immediate (R60). -/
def opWord (op : BitVec 5) (din : Byte) : OpWord := op ++ din

/-- The encoder. The immediate of an operation that ignores it is written as zeros (log 12). -/
def encode : Instr → RawInstr
  | .x8Init => .opw (opWord 0x00 0)
  | .x8Upd din => .opw (opWord 0x01 din)
  | .x8Hex => .opw (opWord 0x02 0)
  | .x8Sum => .opw (opWord 0x03 0)
  | .x8Vfy => .opw (opWord 0x04 0)
  | .c16Init => .opw (opWord 0x08 0)
  | .c16Upd din => .opw (opWord 0x09 din)
  | .c16Hex => .opw (opWord 0x0A 0)
  | .c16Sum => .opw (opWord 0x0B 0)
  | .c16Vfy => .opw (opWord 0x0C 0)
  | .faEnc => .opw (opWord 0x10 0)
  | .faDec => .opw (opWord 0x11 0)
  | .fbEnc => .opw (opWord 0x12 0)
  | .fbDec => .opw (opWord 0x13 0)
  | .stDecA din => .opw (opWord 0x18 din)
  | .stDecB din => .opw (opWord 0x19 din)
  | .stNoReply => .opw (opWord 0x1A 0)
  | .bufPut din => .opw (opWord 0x1B din)
  | .bufClr => .opw (opWord 0x1C 0)
  | .sysReset => .opw (opWord 0x1D 0)
  | .wireProbeA => .wire 0x10
  | .wireProbeB => .wire 0x05
  | .wireCancel => .wire 0x18

/-- The raw instruction whose bits are `w` in a row of `nbits` bits of the table: a row of at most 8 bits is a control byte, a
longer one the operation word. Bits the format does not have must be zero (log 12). -/
def tableRaw (nbits w : Nat) : Option RawInstr :=
  if nbits ≤ 8 then
    if w < 0x100 then some (.wire (BitVec.ofNat 8 w)) else none
  else
    if w < 0x2000 then some (.opw (BitVec.ofNat 13 w)) else none

/-- The instruction the decoder reads from the table word `w` of `nbits` bits. -/
def decodeTableWord (nbits w : Nat) : Option Instr :=
  match tableRaw nbits w with
  | none => none
  | some r =>
    match decode r with
    | .ok i => some i
    | .error _ => none

end Sys2Proof
end

