-- ==== Sys2Proof/Machine/Operands.lean ====
section
/-! DEFINITION. The operand forms: the hardwired constants (`10_state.md` R31), the primitives of `00_scope.md` R9, the checksum
text (`30_encoding.md` R71), the split of a verify operand (R74), and the scans that locate the fields of a received frame
(R75, `42_frame_a.md` R112, `43_frame_b.md` R122). All are pure functions of byte sequences. -/

namespace Sys2Proof.Machine

open Sys2Proof

/-- `XOR_SEED`, R31. -/
def xorSeed : Byte := 0xFF

/-- `CRC_SEED`, R31. -/
def crcSeed : Word16 := 0x0000

/-- First byte of both family A markers: the `1B` of `PREFIX_A` and `SUFFIX_A`, R31. -/
def escA : Byte := 0x1B

/-- Second byte of `PREFIX_A`, R31. -/
def openA : Byte := 0x50

/-- Second byte of `SUFFIX_A`, R31. -/
def closeA : Byte := 0x5C

/-- `STX_B`, R31. -/
def stxB : Byte := 0x02

/-- `SEP_B`, R31. -/
def sepB : Byte := 0x23

/-- `ETX_B`, R31. -/
def etxB : Byte := 0x03

/-- `hexdigit(n)`, R9 and R71: one uppercase ASCII hexadecimal digit. -/
def hexDigit (n : BitVec 4) : Byte :=
  if n.toNat ≤ 9 then BitVec.ofNat 8 (0x30 + n.toNat) else BitVec.ofNat 8 (0x41 + (n.toNat - 10))

/-- `hex2(v)`, R9: high nibble first. -/
def hex2 (v : Byte) : List Byte := [hexDigit (v.extractLsb' 4 4), hexDigit (v.extractLsb' 0 4)]

/-- `hex4(w)`, R9: most significant nibble first. -/
def hex4 (w : Word16) : List Byte :=
  [hexDigit (w.extractLsb' 12 4), hexDigit (w.extractLsb' 8 4), hexDigit (w.extractLsb' 4 4), hexDigit (w.extractLsb' 0 4)]

/-- One iteration of the XOR-8 algorithm, R91. -/
def xor8Step (acc b : Byte) : Byte := acc ^^^ b

/-- `xor8(s)`, R9. -/
def xor8 (s : List Byte) : Byte := s.foldl xor8Step xorSeed

/-- `crc16(s)`, R9: the fold of the open step, lowest index first (R106). -/
def crc16 (s : List Byte) : Word16 := s.foldl Config.crc16Step crcSeed

/-- `find(s, pat)`, R9: the smallest index at which `pat` stands in `s`; `pat` is 1 or 2 bytes. -/
def find (pat : List Byte) : List Byte → Option Nat
  | [] => none
  | b :: rest => if pat.isPrefixOf (b :: rest) then some 0 else (find pat rest).map (· + 1)

/-- `strip_all(s, pat)`, R9, for the 2-byte `pat = p q`: one pass from left to right, without rescanning. -/
def stripAll (p q : Byte) : List Byte → List Byte
  | [] => []
  | [a] => [a]
  | a :: b :: rest => if a = p ∧ b = q then stripAll p q rest else a :: stripAll p q (b :: rest)

/-- The slice `s[i..j)`, R8: empty when `i >= j`. -/
def slice (s : List Byte) (i j : Nat) : List Byte := (s.take j).drop i

/-- R74: the operand of a verify operation is `bytes ‖ code` with the code its last `k` bytes; nothing when there are fewer than
`k` bytes. -/
def verifyOperand (k : Nat) (s : List Byte) : Option (List Byte × List Byte) :=
  if s.length < k then none else some (s.take (s.length - k), s.drop (s.length - k))

/-- R112: the inner bytes of the first family A frame, or nothing while no suffix has arrived: cut after the located suffix,
then strip the prefixes, then the suffixes. -/
def innerA (b : List Byte) : Option (List Byte) :=
  match find [escA, closeA] b with
  | none => none
  | some k => some (stripAll escA closeA (stripAll escA openA (b.take (k + 2))))

/-- R112: the last two inner bytes, the received checksum characters, when there are at least two. -/
def lastTwo (inner : List Byte) : Option (Byte × Byte) :=
  match inner.reverse with
  | c2 :: c1 :: _ => some (c1, c2)
  | _ => none

/-- The family A frame of a payload, R62. -/
def frameA (x : List Byte) : List Byte := [escA, openA] ++ x ++ hex2 (xor8 x) ++ [escA, closeA]

/-- The family B frame of a command-string, R64. -/
def frameB (x : List Byte) : List Byte := [stxB] ++ x ++ [sepB] ++ hex4 (crc16 x) ++ [etxB]

/-- What the family B decoder finds in the read buffer, R122. -/
inductive ScanB where
  /-- No `ETX_B` yet: the operation ends `PENDING` (R155). -/
  | incomplete
  /-- An `ETX_B`, but not the fields the check needs: `FRAME_MALFORMED` (R152). -/
  | malformed
  /-- The command-string and the four received CRC characters. -/
  | fields (cmd tail : List Byte)
  deriving DecidableEq, Repr

/-- R122 up to the comparison, the conditions in the order of R157: the first `03`, the first `02` before it, six bytes between
the two, the separator five bytes before the `03` (R65). -/
def scanB (b : List Byte) : ScanB :=
  match find [etxB] b with
  | none => .incomplete
  | some e =>
    match find [stxB] (b.take e) with
    | none => .malformed
    | some s =>
      if e - s < 6 then .malformed
      else if b[e - 5]? ≠ some sepB then .malformed
      else .fields (slice b (s + 1) (e - 5)) (slice b (e - 4) e)

end Sys2Proof.Machine
end

