-- ==== Sys2Proof/Machine/State.lean ====
section
/-! DEFINITION. The state of one instance of the block (`10_state.md` R32), the reasons a step can stop, and the state after
reset (`70_reset_and_hazards.md` R170). -/

namespace Sys2Proof.Machine

open Sys2Proof

/-- The outcome of the last operation, register `STAT` (R20). Its 2-bit numbers are `statCode` of Machine/HostView.lean; the
value 3 is never produced, so it has no name. -/
inductive Stat where
  | ok
  | pending
  | fault
  deriving DecidableEq, Repr

/-- The cause of the last fault, register `CAUSE` (R21). Its 3-bit numbers are `causeCode` of Machine/HostView.lean; the values 5
to 7 are never produced. -/
inductive Cause where
  | none
  | checksumError
  | frameMalformed
  | bufOverflow
  | illegalOp
  deriving DecidableEq, Repr

/-- One input from outside the block: something the host presents (an operation word, R60, or a control byte it sends on the
line, R68 to R70), or the hardware reset of R172. -/
inductive HostInput where
  | instr (r : RawInstr)
  | hardwareReset
  deriving DecidableEq, Repr

/-- Every register of R32, by its name there; the configuration of R28, which nothing writes (log 3); and the model's own field
`pending`. `ILEN` and `OLEN` are the lengths of `ibuf` and `obuf` (`93_implementation_defined.md` U7, log 9). -/
structure State where
  /-- `XACC`, R10. -/
  xacc : Byte
  /-- `CACC`, R11. -/
  cacc : Word16
  /-- `RES`, R12. -/
  res : Bool
  /-- `IBUF[0..ILEN)`, R15. -/
  ibuf : List Byte
  /-- `OBUF[0..OLEN)`, R16. -/
  obuf : List Byte
  /-- `PLEN`, R17. -/
  plen : Nat
  /-- `RXCHK`, R18. -/
  rxchk : Byte × Byte
  /-- `SPLIT`, R19. -/
  split : Bool
  /-- `STAT`, R20. -/
  stat : Stat
  /-- `CAUSE`, R21. -/
  cause : Cause
  /-- `FSTICKY`, R27. -/
  fsticky : Bool
  /-- `ONLINE`, R22. -/
  online : Bool
  /-- `PAPER_EMPTY`, R22. -/
  paperEmpty : Bool
  /-- `CTRL_ERROR`, R22. -/
  ctrlError : Bool
  /-- `FISCAL`, R23. -/
  fiscal : Bool
  /-- `CMD_OK`, R23. -/
  cmdOk : Bool
  /-- `IN_TRANS`, R23. -/
  inTrans : Bool
  /-- `XFER_OK`, R23. -/
  xferOk : Bool
  /-- `CONNECTED`, R26. -/
  connected : Bool
  /-- The read-only configuration, R28, R29, R5. -/
  cfg : Config
  /-- The model's own field, not a register of the block: the inputs the host has presented and the block has not taken yet,
  oldest first. It stands for the operation stream that R34 makes a parameter of the step (DESIGN CHOICE, log 1). -/
  pending : List HostInput
  deriving DecidableEq, Repr

/-- Why a step stops with a fault. The block's own faults are no entry here: they are next states, through the fault entry of
R158. -/
inductive Fault where
  /-- Raised by the step alone, when the host's next input is a byte sent on the line that is none of the control bytes of R68 to
  R70: the spec gives such a byte no meaning (R4). Safe: the model stops (log 8). -/
  | notAControlByte (b : Byte)
  deriving DecidableEq, Repr

/-- Why a step is refused. -/
inductive Refusal where
  /-- Raised by an arm of `exec` whose instruction has no meaning yet. Safe: the model stops. No arm raises it. -/
  | notModelled (mnemonic : String)
  deriving DecidableEq, Repr

/-- The state right after reset, R170: the reset column of R32. The configuration is not affected by reset; here it is the
default one (log 4). No input is waiting (log 1). -/
def State.reset : State where
  xacc := 0xFF
  cacc := 0x0000
  res := false
  ibuf := []
  obuf := []
  plen := 0
  rxchk := (0x00, 0x00)
  split := false
  stat := .ok
  cause := .none
  fsticky := false
  online := false
  paperEmpty := false
  ctrlError := false
  fiscal := false
  cmdOk := false
  inTrans := false
  xferOk := false
  connected := false
  cfg := Config.default
  pending := []

end Sys2Proof.Machine
end

