-- ==== Sys2Proof/Machine/Ops.lean ====
section
/-! DEFINITION. The named operations over the registers and buffers: the one home of every write of the block's state. Taking an
exception is `State.raise`, the fault entry of `60_exceptions.md` R158; the block has no return operation (R160). -/

namespace Sys2Proof.Machine

open Sys2Proof

/-! ### Reads -/

/-- `ILEN`, R15. -/
def State.ilen (s : State) : Nat := s.ibuf.length

/-- `OLEN`, R16. -/
def State.olen (s : State) : Nat := s.obuf.length

/-- `PAYLOAD = OBUF[0..PLEN)`, R17. -/
def State.payload (s : State) : List Byte := s.obuf.take s.plen

/-- `ILEN = BUF_CAP`, the test of R140; an unbounded capacity is never reached (log 15). -/
def State.inputFull (s : State) : Bool :=
  match s.cfg.bufCap with
  | none => false
  | some n => s.ibuf.length == n

/-! ### Working registers -/

/-- `XACC <- v`. -/
def State.setXacc (s : State) (v : Byte) : State := { s with xacc := v }

/-- `CACC <- v`. -/
def State.setCacc (s : State) (v : Word16) : State := { s with cacc := v }

/-- `RES <- b`. -/
def State.setRes (s : State) (b : Bool) : State := { s with res := b }

/-! ### Buffers -/

/-- Replace all of `OBUF`; `OLEN` and `PLEN` are its length (R16, R17). -/
def State.deliver (s : State) (out : List Byte) : State := { s with obuf := out, plen := out.length }

/-- The inner bytes of a family A frame and their split (R112, R17 to R19). -/
def State.deliverInner (s : State) (inner : List Byte) : State :=
  match lastTwo inner with
  | some chk => { s with obuf := inner, plen := inner.length - 2, rxchk := chk, split := true }
  | none => { s with obuf := inner, plen := 0, rxchk := (0x00, 0x00), split := false }

/-- `IBUF[ILEN] <- b; ILEN <- ILEN + 1`, R140. -/
def State.appendInput (s : State) (b : Byte) : State := { s with ibuf := s.ibuf ++ [b] }

/-- Empty both buffers, R141. `RXCHK` keeps its bytes (`90_conflicts.md` C12). -/
def State.clearBuffers (s : State) : State := { s with ibuf := [], obuf := [], plen := 0, split := false }

/-- `RXCHK <- 00 00; SPLIT <- 0`, what `FA.DEC` adds to the pending entry (R159). -/
def State.clearSplit (s : State) : State := { s with rxchk := (0x00, 0x00), split := false }

/-! ### Link status -/

/-- Flag set A of R22. -/
def State.setLinkA (s : State) (on pe ce : Bool) : State := { s with online := on, paperEmpty := pe, ctrlError := ce }

/-- Flag set B of R23. -/
def State.setLinkB (s : State) (fi co it xo : Bool) : State :=
  { s with fiscal := fi, cmdOk := co, inTrans := it, xferOk := xo }

/-- `CONNECTED <- b`, R26. -/
def State.setConnected (s : State) (b : Bool) : State := { s with connected := b }

/-! ### Outcomes -/

/-- `STAT <- OK; CAUSE <- NONE`, R20 and R21. -/
def State.complete (s : State) : State := { s with stat := .ok, cause := .none }

/-- The fault entry of R158 with cause `c`. -/
def State.raise (s : State) (c : Cause) : State :=
  { s with obuf := [], plen := 0, stat := .fault, cause := c, fsticky := true }

/-- The pending entry of R159. -/
def State.hold (s : State) : State := { s with obuf := [], plen := 0, stat := .pending, cause := .none }

/-- Reset, R170 and R142: every register to the reset column of R32, the configuration as it was (R171). The inputs still waiting
are the host's and stay (log 10). -/
def State.toReset (s : State) : State := { State.reset with cfg := s.cfg, pending := s.pending }

/-! ### The host's inputs -/

/-- Put one input in front of those waiting. -/
def State.present (s : State) (h : HostInput) : State := { s with pending := h :: s.pending }

/-- Both buffers are within their capacities (R15, R16): the canonical form of the block's only memory, whose sequences hold the
valid bytes and no others (log 9). -/
def Memory.wf (s : State) : Bool :=
  match s.cfg.bufCap with
  | none => true
  | some n => Nat.ble s.ibuf.length n && Nat.ble s.obuf.length (n + 7)

end Sys2Proof.Machine
end

