-- ==== Sys2Proof/Machine/Buffer.lean ====
section
/-! DEFINITION. The buffer and system operations (`45_buffer_system.md` R140 to R142). -/

namespace Sys2Proof.Machine

open Sys2Proof

/-- `BUF.PUT DIN`, R140: on a full input buffer the fault entry with `BUF_OVERFLOW` (R153), the byte not stored. -/
def execBufPut (din : Byte) (s : State) : Host.Outcome State Fault Refusal :=
  if s.inputFull then .next (s.raise .bufOverflow) else .next (s.appendInput din).complete

/-- `BUF.CLR`, R141. -/
def execBufClr (s : State) : Host.Outcome State Fault Refusal := .next s.clearBuffers.complete

/-- `SYS.RESET`, R142: exactly the effect of the hardware reset (R172). -/
def execSysReset (s : State) : Host.Outcome State Fault Refusal := .next s.toReset

end Sys2Proof.Machine
end

