-- ==== Sys2Proof/Machine/Flags.lean ====
section
/-! DEFINITION. The flag computations: a link-status flag from a status byte and its mask (`10_state.md` R22, R23) and the result
bit of a verify (`30_encoding.md` R73). -/

namespace Sys2Proof.Machine

open Sys2Proof

/-- `bool((DIN and MSK) != 0)`, R22 and R23. -/
def maskedFlag (din msk : Byte) : Bool := decide (din &&& msk ≠ 0)

/-- The result bit of a verify, R73: the rendered checksum and the received code are the same bytes. -/
def sameText (rendered code : List Byte) : Bool := decide (rendered = code)

end Sys2Proof.Machine
end

