-- ==== Sys2Proof/Machine/Crc16.lean ====
section
/-! DEFINITION. The CRC16 unit (`41_crc16.md` R100 to R104), around the open step `Config.crc16Step` (R105, log 5). -/

namespace Sys2Proof.Machine

open Sys2Proof

/-- `C16.INIT`, R100. -/
def execC16Init (s : State) : Host.Outcome State Fault Refusal := .next (s.setCacc crcSeed).complete

/-- `C16.UPD DIN`, R101. -/
def execC16Upd (din : Byte) (s : State) : Host.Outcome State Fault Refusal :=
  .next (s.setCacc (Config.crc16Step s.cacc din)).complete

/-- `C16.HEX`, R102. -/
def execC16Hex (s : State) : Host.Outcome State Fault Refusal := .next (s.deliver (hex4 s.cacc)).complete

/-- `C16.SUM`, R103. -/
def execC16Sum (s : State) : Host.Outcome State Fault Refusal :=
  .next ((s.setCacc (crc16 s.ibuf)).deliver (hex4 (crc16 s.ibuf))).complete

/-- `C16.VFY`, R104: a mismatch is a result, not a fault. -/
def execC16Vfy (s : State) : Host.Outcome State Fault Refusal :=
  match verifyOperand 4 s.ibuf with
  | none => .next (s.setRes false).complete
  | some (bytes, code) =>
    .next ((s.setCacc (crc16 bytes)).setRes (sameText (hex4 (crc16 bytes)) code)).complete

end Sys2Proof.Machine
end

