-- ==== Sys2Proof/Machine/FrameA.lean ====
section
/-! DEFINITION. The family A frame codec (`42_frame_a.md` R110, R112). -/

namespace Sys2Proof.Machine

open Sys2Proof

/-- `FA.ENC`, R110: the payload is not inspected (R111). -/
def execFaEnc (s : State) : Host.Outcome State Fault Refusal :=
  .next ((s.setXacc (xor8 s.ibuf)).deliver (frameA s.ibuf)).complete

/-- `FA.DEC`, R112: no suffix yet is the hold of R159; the received checksum is never verified (R113). -/
def execFaDec (s : State) : Host.Outcome State Fault Refusal :=
  match innerA s.ibuf with
  | none => .next s.clearSplit.hold
  | some inner => .next (s.deliverInner inner).complete

end Sys2Proof.Machine
end

