-- ==== Sys2Proof/Machine/FrameB.lean ====
section
/-! DEFINITION. The family B frame codec (`43_frame_b.md` R120, R122). -/

namespace Sys2Proof.Machine

open Sys2Proof

/-- `FB.ENC`, R120: the command-string is not inspected (R121). -/
def execFbEnc (s : State) : Host.Outcome State Fault Refusal :=
  .next ((s.setCacc (crc16 s.ibuf)).deliver (frameB s.ibuf)).complete

/-- `FB.DEC`, R122, the conditions in the order of R157. After `CHECKSUM_ERROR`, `CACC` holds the computed CRC (R151); after
`FRAME_MALFORMED` it is unchanged (R152). -/
def execFbDec (s : State) : Host.Outcome State Fault Refusal :=
  match scanB s.ibuf with
  | .incomplete => .next s.hold
  | .malformed => .next (s.raise .frameMalformed)
  | .fields cmd tail =>
    if sameText (hex4 (crc16 cmd)) tail then .next ((s.setCacc (crc16 cmd)).deliver cmd).complete
    else .next ((s.setCacc (crc16 cmd)).raise .checksumError)

end Sys2Proof.Machine
end

