-- ==== Sys2Proof/Machine/Status.lean ====
section
/-! DEFINITION. The serial status-byte decoder (`44_status.md` R130 to R132). -/

namespace Sys2Proof.Machine

open Sys2Proof

/-- `ST.DECA DIN`, R130: a reply arrived, so the link is connected. -/
def execStDecA (din : Byte) (s : State) : Host.Outcome State Fault Refusal :=
  .next ((s.setLinkA (maskedFlag din s.cfg.mskOnline) (maskedFlag din s.cfg.mskPaperEmpty)
    (maskedFlag din s.cfg.mskCtrlError)).setConnected true).complete

/-- `ST.DECB DIN`, R131. -/
def execStDecB (din : Byte) (s : State) : Host.Outcome State Fault Refusal :=
  .next ((s.setLinkB (maskedFlag din s.cfg.mskFiscal) (maskedFlag din s.cfg.mskCmdOk)
    (maskedFlag din s.cfg.mskInTrans) (maskedFlag din s.cfg.mskXferOk)).setConnected true).complete

/-- `ST.NOREPLY`, R132: the seven status flags keep their last values. -/
def execStNoReply (s : State) : Host.Outcome State Fault Refusal := .next (s.setConnected false).complete

end Sys2Proof.Machine
end

