-- ==== Sys2Proof/Machine/Wire.lean ====
section
/-! DEFINITION. The control bytes of the line (`30_encoding.md` R68 to R70). The host sends them over the transport, which is out
of scope (`00_scope.md` R4); the block does not send them and does not react to them, so every register keeps its value
(DEDUCED, log 7). They are no operations: `STAT` and `CAUSE` are not written either. -/

namespace Sys2Proof.Machine

open Sys2Proof

/-- `WIRE.PROBE_A`, R68: the reply reaches the block later, as the immediate of an `ST.DECA`. -/
def execWireProbeA (s : State) : Host.Outcome State Fault Refusal := .next s

/-- `WIRE.PROBE_B`, R69: the reply reaches the block later, as the immediate of an `ST.DECB`. -/
def execWireProbeB (s : State) : Host.Outcome State Fault Refusal := .next s

/-- `WIRE.CANCEL`, R70: no operation of the block concerns it. -/
def execWireCancel (s : State) : Host.Outcome State Fault Refusal := .next s

end Sys2Proof.Machine
end

