-- ==== Sys2Proof/Machine/Xor8.lean ====
section
/-! DEFINITION. The XOR-8 unit (`40_xor8.md` R90 to R94). -/

namespace Sys2Proof.Machine

open Sys2Proof

/-- `X8.INIT`, R90. -/
def execX8Init (s : State) : Host.Outcome State Fault Refusal := .next (s.setXacc xorSeed).complete

/-- `X8.UPD DIN`, R91. -/
def execX8Upd (din : Byte) (s : State) : Host.Outcome State Fault Refusal :=
  .next (s.setXacc (xor8Step s.xacc din)).complete

/-- `X8.HEX`, R92. -/
def execX8Hex (s : State) : Host.Outcome State Fault Refusal := .next (s.deliver (hex2 s.xacc)).complete

/-- `X8.SUM`, R93. -/
def execX8Sum (s : State) : Host.Outcome State Fault Refusal :=
  .next ((s.setXacc (xor8 s.ibuf)).deliver (hex2 (xor8 s.ibuf))).complete

/-- `X8.VFY`, R94: a mismatch is a result, not a fault. -/
def execX8Vfy (s : State) : Host.Outcome State Fault Refusal :=
  match verifyOperand 2 s.ibuf with
  | none => .next (s.setRes false).complete
  | some (bytes, code) =>
    .next ((s.setXacc (xor8 bytes)).setRes (sameText (hex2 (xor8 bytes)) code)).complete

end Sys2Proof.Machine
end

