-- ==== Sys2Proof/Machine/Dispatch.lean ====
section
/-! DEFINITION. The meaning of every instruction, one arm per constructor. -/

namespace Sys2Proof.Machine

open Sys2Proof

def exec (i : Instr) (s : State) : Host.Outcome State Fault Refusal :=
  match i with
  | .x8Init => Sys2Proof.Machine.execX8Init s
  | .x8Upd din => Sys2Proof.Machine.execX8Upd din s
  | .x8Hex => Sys2Proof.Machine.execX8Hex s
  | .x8Sum => Sys2Proof.Machine.execX8Sum s
  | .x8Vfy => Sys2Proof.Machine.execX8Vfy s
  | .c16Init => Sys2Proof.Machine.execC16Init s
  | .c16Upd din => Sys2Proof.Machine.execC16Upd din s
  | .c16Hex => Sys2Proof.Machine.execC16Hex s
  | .c16Sum => Sys2Proof.Machine.execC16Sum s
  | .c16Vfy => Sys2Proof.Machine.execC16Vfy s
  | .faEnc => Sys2Proof.Machine.execFaEnc s
  | .faDec => Sys2Proof.Machine.execFaDec s
  | .fbEnc => Sys2Proof.Machine.execFbEnc s
  | .fbDec => Sys2Proof.Machine.execFbDec s
  | .stDecA din => Sys2Proof.Machine.execStDecA din s
  | .stDecB din => Sys2Proof.Machine.execStDecB din s
  | .stNoReply => Sys2Proof.Machine.execStNoReply s
  | .bufPut din => Sys2Proof.Machine.execBufPut din s
  | .bufClr => Sys2Proof.Machine.execBufClr s
  | .sysReset => Sys2Proof.Machine.execSysReset s
  | .wireProbeA => Sys2Proof.Machine.execWireProbeA s
  | .wireProbeB => Sys2Proof.Machine.execWireProbeB s
  | .wireCancel => Sys2Proof.Machine.execWireCancel s

end Sys2Proof.Machine
end

