-- ==== Sys2Proof/Machine/Issue.lean ====
section
/-! DEFINITION. How the block takes the host's inputs, one at a time, in order, each to completion (`20_memory.md` R48, R50). -/

namespace Sys2Proof.Machine

open Sys2Proof

/-- One input acts on the block. A reserved operation code performs the fault entry with `ILLEGAL_OP` (R78, R154, detected before
anything else: R157); the hardware reset has the effect of R170; a byte on the line that is no control byte stops the model
(log 8). -/
def accept (h : HostInput) (s : State) : Host.Outcome State Fault Refusal :=
  match h with
  | .hardwareReset => .next s.toReset
  | .instr r =>
    match decode r with
    | .ok i => exec i s
    | .error (.reservedCode _) => .next (s.raise .illegalOp)
    | .error (.notAControlByte b) => .fault (.notAControlByte b)

/-- The oldest waiting input is taken off the list and acts. With none waiting the block stays as it is (R155, log 2). -/
def advance (s : State) : Host.Outcome State Fault Refusal :=
  match s.pending with
  | [] => .next s
  | h :: rest => accept h { s with pending := rest }

/-- The table word `w` of `nbits` bits as an input; a word with bits its format does not have is cut to the format, and
`decodeTableWord` refuses it. -/
def tableInput (nbits w : Nat) : HostInput :=
  if nbits ≤ 8 then .instr (.wire (BitVec.ofNat 8 w)) else .instr (.opw (BitVec.ofNat 13 w))

end Sys2Proof.Machine
end

