-- ==== Sys2Proof/Machine/Step.lean ====
section
/-! DEFINITION. One step of the machine, and how an instruction is placed where the step takes its next one. -/

namespace Sys2Proof.Machine

open Sys2Proof

/-- One step: the block takes the host's oldest waiting input (`advance`). -/
def step (s : State) : Host.Outcome State Fault Refusal := advance s

/-- The table word as the host's next input (log 6). -/
def State.withFetchWord (s : State) (nbits w : Nat) : State := s.present (tableInput nbits w)

end Sys2Proof.Machine
end

