-- ==== Sys2Proof/Machine/Shorthand.lean ====
section
/-! DEFINITION. The shorthand forms of `30_encoding.md` R84 as sequences of operations, and the execution of a sequence in the order
the host issues it (`20_memory.md` R50). -/

namespace Sys2Proof.Machine

open Sys2Proof

/-- `LOAD bytes`, R84. -/
def load (bytes : List Byte) : List Instr := .bufClr :: bytes.map .bufPut

/-- `X8.STREAM bytes`, R84. -/
def x8Stream (bytes : List Byte) : List Instr := .x8Init :: bytes.map .x8Upd

/-- `C16.STREAM bytes`, R84. -/
def c16Stream (bytes : List Byte) : List Instr := .c16Init :: bytes.map .c16Upd

/-- Issue the operations of a list in order, stopping at the first that does not answer a next state. -/
def execAll : List Instr → State → Host.Outcome State Fault Refusal
  | [], s => .next s
  | i :: rest, s =>
    match exec i s with
    | .next t => execAll rest t
    | .fault f => .fault f
    | .refused r => .refused r

end Sys2Proof.Machine
end

