-- ==== Sys2Proof/Machine/HostView.lean ====
section
/-! DEFINITION. What the host reads: every register by name, between operations, without side effect (`10_state.md` R33,
`45_buffer_system.md` R143, `20_memory.md` R47). The spec gives the registers names and no addresses (decision D20 of
`92_eei_decisions.md`). -/

namespace Sys2Proof.Machine

open Sys2Proof

/-- The numbers of `STAT`, R20. -/
def statCode : Stat → BitVec 2
  | .ok => 0
  | .pending => 1
  | .fault => 2

/-- The numbers of `CAUSE`, R21. -/
def causeCode : Cause → BitVec 3
  | .none => 0
  | .checksumError => 1
  | .frameMalformed => 2
  | .bufOverflow => 3
  | .illegalOp => 4

/-- The registers of R32 that hold a number, by name. -/
inductive HostReg where
  | XACC | CACC | RES | ILEN | OLEN | PLEN | SPLIT | STAT | CAUSE | FSTICKY
  | ONLINE | PAPER_EMPTY | CTRL_ERROR | FISCAL | CMD_OK | IN_TRANS | XFER_OK | CONNECTED
  | MSK_ONLINE | MSK_PAPER_EMPTY | MSK_CTRL_ERROR | MSK_FISCAL | MSK_CMD_OK | MSK_IN_TRANS | MSK_XFER_OK
  deriving DecidableEq, Repr

/-- The value the host reads from a register. -/
def readReg (r : HostReg) (s : State) : Nat :=
  match r with
  | .XACC => s.xacc.toNat
  | .CACC => s.cacc.toNat
  | .RES => s.res.toNat
  | .ILEN => s.ilen
  | .OLEN => s.olen
  | .PLEN => s.plen
  | .SPLIT => s.split.toNat
  | .STAT => (statCode s.stat).toNat
  | .CAUSE => (causeCode s.cause).toNat
  | .FSTICKY => s.fsticky.toNat
  | .ONLINE => s.online.toNat
  | .PAPER_EMPTY => s.paperEmpty.toNat
  | .CTRL_ERROR => s.ctrlError.toNat
  | .FISCAL => s.fiscal.toNat
  | .CMD_OK => s.cmdOk.toNat
  | .IN_TRANS => s.inTrans.toNat
  | .XFER_OK => s.xferOk.toNat
  | .CONNECTED => s.connected.toNat
  | .MSK_ONLINE => s.cfg.mskOnline.toNat
  | .MSK_PAPER_EMPTY => s.cfg.mskPaperEmpty.toNat
  | .MSK_CTRL_ERROR => s.cfg.mskCtrlError.toNat
  | .MSK_FISCAL => s.cfg.mskFiscal.toNat
  | .MSK_CMD_OK => s.cfg.mskCmdOk.toNat
  | .MSK_IN_TRANS => s.cfg.mskInTrans.toNat
  | .MSK_XFER_OK => s.cfg.mskXferOk.toNat

/-- The host reads `IBUF[i]`; nothing at or beyond `ILEN` (R15). -/
def readIbuf (i : Nat) (s : State) : Option Byte := s.ibuf[i]?

/-- The host reads `OBUF[i]`; nothing at or beyond `OLEN` (R16). -/
def readObuf (i : Nat) (s : State) : Option Byte := s.obuf[i]?

/-- The host reads the two bytes of `RXCHK`, lowest index first (R18). -/
def readRxchk (s : State) : List Byte := [s.rxchk.1, s.rxchk.2]

end Sys2Proof.Machine
end

