-- ==== Sys2Proof/Safety.lean ====
section
/-! DEFINITION. What a claim may rest on: the invariant of the machine, and the host duties of `70_reset_and_hazards.md` that are
predicates of a state or of a byte sequence. -/

namespace Sys2Proof.Machine

open Sys2Proof

/-- The invariant of the block: the configuration is legal (R174); both buffers are within their capacities (R15, R16); `PLEN` is
at most `OLEN` (R17); `CAUSE` names a cause exactly when `STAT` is `FAULT` (R21); a `FAULT` outcome has set `FSTICKY` (R27); after
a `FAULT` or `PENDING` outcome `OBUF` is empty (R158, R159). -/
structure StateInv (s : State) : Prop where
  cfgLegal : s.cfg.legal = true
  bufWf : Memory.wf s = true
  plenLe : s.plen ≤ s.obuf.length
  causeIff : s.stat = .fault ↔ s.cause ≠ .none
  stickySet : s.stat = .fault → s.fsticky = true
  obufEmpty : s.stat ≠ .ok → s.obuf = []

/-- The 2-byte sequence `p q` stands in `x` at index `k`. -/
abbrev pairAt (p q : Byte) (x : List Byte) (k : Nat) : Prop := x[k]? = some p ∧ x[k + 1]? = some q

/-- The 2-byte sequence `p q` stands nowhere in `x`. -/
abbrev pairFree (p q : Byte) (x : List Byte) : Prop := ∀ k < x.length, ¬ pairAt p q x k

/-- R176 for family A: the payload contains neither `1B 50` nor `1B 5C`. -/
abbrev markerFreeA (x : List Byte) : Prop := pairFree 0x1B 0x50 x ∧ pairFree 0x1B 0x5C x

/-- R176 for family B: the command-string contains neither `02` nor `03`. -/
abbrev markerFreeB (x : List Byte) : Prop := (0x02 : Byte) ∉ x ∧ (0x03 : Byte) ∉ x

/-- A sequence of `k` bytes fits the input buffer (R114, R124: the laws need the frame to fit). -/
abbrev fitsInput (s : State) (k : Nat) : Prop := ∀ n ∈ s.cfg.bufCap, k ≤ n

/-- R179: the results of the last operation may be used. -/
def resultsValid (s : State) : Bool := s.stat == .ok

/-- R182: the seven status flags are current. -/
def linkCurrent (s : State) : Bool := s.connected

/-- R181: no fault since reset. -/
def faultFree (s : State) : Bool := !s.fsticky

end Sys2Proof.Machine
end

