-- ==== Sys2Proof/Certificates/Slice0/Obligations.lean ====
section
/-! DEFINITION. The statements for the provers. "log n" is `notes/assumptions/n.md`; R<n> is a numbered rule of `spec/`. A statement
whose conclusion is an equation `exec i s = .next { s with … }` is the result, the completion and the frame of the instruction in
one: every register not named keeps its value. -/

section

open Sys2Proof Sys2Proof.Machine

/-- O1. A few words of every family, written out by hand from R60 and the vectors of `95_test_vectors.md`. -/
def Obligations.TabulatedWordsDecode : Prop :=
  decode (.opw 0x0000) = .ok .x8Init ∧ decode (.opw 0x00AA) = .ok .x8Init ∧
  decode (.opw 0x01FF) = .ok (.x8Upd 0xFF) ∧ decode (.opw 0x0400) = .ok .x8Vfy ∧
  decode (.opw 0x0941) = .ok (.c16Upd 0x41) ∧ decode (.opw 0x0A00) = .ok .c16Hex ∧
  decode (.opw 0x1100) = .ok .faDec ∧ decode (.opw 0x1300) = .ok .fbDec ∧
  decode (.opw 0x1875) = .ok (.stDecA 0x75) ∧ decode (.opw 0x196D) = .ok (.stDecB 0x6D) ∧
  decode (.opw 0x1A00) = .ok .stNoReply ∧ decode (.opw 0x1B41) = .ok (.bufPut 0x41) ∧
  decode (.opw 0x1D00) = .ok .sysReset ∧
  decode (.opw 0x05AA) = .error (.reservedCode 0x05) ∧ decode (.opw 0x1FFF) = .error (.reservedCode 0x1F) ∧
  decode (.wire 0x10) = .ok .wireProbeA ∧ decode (.wire 0x05) = .ok .wireProbeB ∧
  decode (.wire 0x18) = .ok .wireCancel

/-- O2. R60, the layout of the operation word and the table of codes, in both directions. -/
def Obligations.DecoderMatchesTheOperationTable : Prop :=
  ∀ (w : OpWord) (i : Instr), decode (.opw w) = .ok i ↔
    ∃ (op : BitVec 5) (d : Byte), w = op ++ d ∧ (op, i) ∈
      ([(0x00, .x8Init), (0x01, .x8Upd d), (0x02, .x8Hex), (0x03, .x8Sum), (0x04, .x8Vfy),
        (0x08, .c16Init), (0x09, .c16Upd d), (0x0A, .c16Hex), (0x0B, .c16Sum), (0x0C, .c16Vfy),
        (0x10, .faEnc), (0x11, .faDec), (0x12, .fbEnc), (0x13, .fbDec),
        (0x18, .stDecA d), (0x19, .stDecB d), (0x1A, .stNoReply),
        (0x1B, .bufPut d), (0x1C, .bufClr), (0x1D, .sysReset)] : List (BitVec 5 × Instr))

/-- O3. R61: no extension, scaling or shift of `DIN`; all its bits ignored by the other operations. -/
def Obligations.ImmediateIsUsedAsItStandsOrIgnored : Prop :=
  (∀ (op : BitVec 5) (d d' : Byte), op ∉ ([0x01, 0x09, 0x18, 0x19, 0x1B] : List (BitVec 5)) →
    decode (.opw (op ++ d)) = decode (.opw (op ++ d'))) ∧
  ∀ d : Byte,
    decode (.opw (0x01#5 ++ d)) = .ok (.x8Upd d) ∧ decode (.opw (0x09#5 ++ d)) = .ok (.c16Upd d) ∧
    decode (.opw (0x18#5 ++ d)) = .ok (.stDecA d) ∧ decode (.opw (0x19#5 ++ d)) = .ok (.stDecB d) ∧
    decode (.opw (0x1B#5 ++ d)) = .ok (.bufPut d)

/-- O4. No bit of an encoding is dropped. That the encoder writes zeros for an ignored immediate is the model's choice (log 12). -/
def Obligations.DecodeOfEncodeIsTheInstruction : Prop :=
  ∀ i : Instr, decode (encode i) = .ok i ∧ (encode i).wellFormed = true

/-- O5. The reserved codes of R78 and the control bytes of R68 to R70. That a line byte is decoded at all is the model's choice (log 7, log 8). -/
def Obligations.DecodableExactlyWhenWellFormed : Prop :=
  (∀ r : RawInstr, r.wellFormed = true ↔ ∃ i, decode r = .ok i) ∧
  ∀ (op : BitVec 5) (d : Byte), op ∈ reservedCodes ↔ decode (.opw (op ++ d)) = .error (.reservedCode op)

/-- O6. R78 and R154, with the fault entry of R158. The list `pending` is the model's (log 1). -/
def Obligations.ReservedCodeTakesIllegalOp : Prop :=
  ∀ (s : State) (op : BitVec 5) (d : Byte) (rest : List HostInput),
    s.pending = .instr (.opw (op ++ d)) :: rest →
    op ∈ ([0x05, 0x06, 0x07, 0x0D, 0x0E, 0x0F, 0x14, 0x15, 0x16, 0x17, 0x1E, 0x1F] : List (BitVec 5)) →
    step s = .next { s with pending := rest, obuf := [], plen := 0, stat := .fault, cause := .illegalOp, fsticky := true }

/-- O7. One operation at a time, in the order issued (R50). The list `pending` is the model's (log 1). -/
def Obligations.StepRunsTheDecodedInstruction : Prop :=
  ∀ (s : State) (r : RawInstr) (i : Instr) (rest : List HostInput),
    s.pending = .instr r :: rest → decode r = .ok i → step s = exec i { s with pending := rest }

/-- O8. R172: identical effect, no partial reset. That the reset input is an item of the host's list is the model's choice (log 10). -/
def Obligations.HardwareResetAndSysResetAgree : Prop :=
  ∀ (s : State) (rest : List HostInput) (d : Byte),
    step { s with pending := .hardwareReset :: rest } = .next { State.reset with cfg := s.cfg, pending := rest } ∧
    step { s with pending := .instr (.opw (0x1D#5 ++ d)) :: rest } =
      .next { State.reset with cfg := s.cfg, pending := rest }

/-- O9. The model's choice (log 2), after the sentence "the block stays as it is for ever" of R155. -/
def Obligations.IdleStepChangesNothing : Prop :=
  ∀ s : State, s.pending = [] → step s = .next s

/-- O10. The model's choice (log 8): the spec gives other bytes on the line no meaning (R4). -/
def Obligations.UnknownLineByteStopsTheModel : Prop :=
  ∀ (s : State) (b : Byte) (rest : List HostInput),
    s.pending = .instr (.wire b) :: rest → b ∉ ([0x10, 0x05, 0x18] : List Byte) →
    step s = .fault (.notAControlByte b)

/-- O11. R50: in the order the host issues them, nothing reordered, merged or buffered. The list is the model's (log 1). -/
def Obligations.StepTakesOneInputInOrder : Prop :=
  ∀ (s : State) (h : HostInput) (rest : List HostInput), s.pending = h :: rest →
    (∀ r, h = .instr (.wire r) → r ∈ ([0x10, 0x05, 0x18] : List Byte)) →
    ∃ t, step s = .next t ∧ t.pending = rest

/-- O12. R90. The equation is the result, the completion and the frame. -/
def Obligations.X8InitSeedsTheAccumulator : Prop :=
  (∀ d : Byte, decode (.opw (0x00#5 ++ d)) = .ok .x8Init) ∧
  ∀ s : State, exec .x8Init s = .next { s with xacc := 0xFF, stat := .ok, cause := .none }

/-- O13. R91. The equation is the result, the completion and the frame. -/
def Obligations.X8UpdFoldsOneByte : Prop :=
  (∀ d : Byte, decode (.opw (0x01#5 ++ d)) = .ok (.x8Upd d)) ∧
  ∀ (s : State) (d : Byte), exec (.x8Upd d) s = .next { s with xacc := s.xacc ^^^ d, stat := .ok, cause := .none }

/-- O14. R92; `hex2` is pinned by `HexTextIsUppercasePositional`. -/
def Obligations.X8HexRendersTheAccumulator : Prop :=
  (∀ d : Byte, decode (.opw (0x02#5 ++ d)) = .ok .x8Hex) ∧
  ∀ s : State, exec .x8Hex s = .next { s with obuf := hex2 s.xacc, plen := 2, stat := .ok, cause := .none }

/-- O15. R93; `xor8` is pinned by `X8StreamAndSumComputeXor8`. -/
def Obligations.X8SumChecksumsTheInputBuffer : Prop :=
  (∀ d : Byte, decode (.opw (0x03#5 ++ d)) = .ok .x8Sum) ∧
  ∀ s : State, exec .x8Sum s =
    .next { s with xacc := xor8 s.ibuf, obuf := hex2 (xor8 s.ibuf), plen := 2, stat := .ok, cause := .none }

/-- O16. R94: two clauses, fewer than two bytes and at least two; the second splits off exactly the last two. -/
def Obligations.X8VfyComparesTheLastTwoBytes : Prop :=
  (∀ d : Byte, decode (.opw (0x04#5 ++ d)) = .ok .x8Vfy) ∧
  (∀ s : State, s.ibuf.length < 2 → exec .x8Vfy s = .next { s with res := false, stat := .ok, cause := .none }) ∧
  ∀ (s : State) (bytes : List Byte) (c1 c2 : Byte), s.ibuf = bytes ++ [c1, c2] →
    exec .x8Vfy s =
      .next { s with xacc := xor8 bytes, res := decide (hex2 (xor8 bytes) = [c1, c2]), stat := .ok, cause := .none }

/-- O17. R100. -/
def Obligations.C16InitSeedsTheAccumulator : Prop :=
  (∀ d : Byte, decode (.opw (0x08#5 ++ d)) = .ok .c16Init) ∧
  ∀ s : State, exec .c16Init s = .next { s with cacc := 0x0000, stat := .ok, cause := .none }

/-- O18. R101, for every value of the open parameter (log 5). -/
def Obligations.C16UpdFoldsOneByte : Prop :=
  (∀ d : Byte, decode (.opw (0x09#5 ++ d)) = .ok (.c16Upd d)) ∧
  ∀ (s : State) (d : Byte), exec (.c16Upd d) s = .next { s with cacc := Config.crc16Step s.cacc d, stat := .ok, cause := .none }

/-- O19. R102; `hex4` is pinned by `HexTextIsUppercasePositional`. -/
def Obligations.C16HexRendersTheAccumulator : Prop :=
  (∀ d : Byte, decode (.opw (0x0A#5 ++ d)) = .ok .c16Hex) ∧
  ∀ s : State, exec .c16Hex s = .next { s with obuf := hex4 s.cacc, plen := 4, stat := .ok, cause := .none }

/-- O20. R103; `crc16` is pinned by `C16StreamAndSumComputeCrc16`. -/
def Obligations.C16SumChecksumsTheInputBuffer : Prop :=
  (∀ d : Byte, decode (.opw (0x0B#5 ++ d)) = .ok .c16Sum) ∧
  ∀ s : State, exec .c16Sum s =
    .next { s with cacc := crc16 s.ibuf, obuf := hex4 (crc16 s.ibuf), plen := 4, stat := .ok, cause := .none }

/-- O21. R104: two clauses, fewer than four bytes and at least four. -/
def Obligations.C16VfyComparesTheLastFourBytes : Prop :=
  (∀ d : Byte, decode (.opw (0x0C#5 ++ d)) = .ok .c16Vfy) ∧
  (∀ s : State, s.ibuf.length < 4 → exec .c16Vfy s = .next { s with res := false, stat := .ok, cause := .none }) ∧
  ∀ (s : State) (bytes code : List Byte), s.ibuf = bytes ++ code → code.length = 4 →
    exec .c16Vfy s =
      .next { s with cacc := crc16 bytes, res := decide (hex4 (crc16 bytes) = code), stat := .ok, cause := .none }

/-- O22. R110 with the frame of R62; no payload is rejected or altered. -/
def Obligations.FaEncWrapsThePayload : Prop :=
  (∀ d : Byte, decode (.opw (0x10#5 ++ d)) = .ok .faEnc) ∧
  ∀ s : State, exec .faEnc s =
    .next { s with
      xacc := xor8 s.ibuf,
      obuf := [0x1B, 0x50] ++ s.ibuf ++ hex2 (xor8 s.ibuf) ++ [0x1B, 0x5C],
      plen := s.ibuf.length + 6, stat := .ok, cause := .none }

/-- O23. R112, all three ends; `stripAll` is pinned by `StripAllRemovesLeftmostOccurrences`. -/
def Obligations.FaDecUnwrapsTheFirstFrame : Prop :=
  (∀ d : Byte, decode (.opw (0x11#5 ++ d)) = .ok .faDec) ∧
  (∀ s : State, pairFree 0x1B 0x5C s.ibuf →
    exec .faDec s = .next { s with
      obuf := [], plen := 0, rxchk := (0x00, 0x00), split := false, stat := .pending, cause := .none }) ∧
  ∀ (s : State) (k : Nat) (inner : List Byte),
    pairAt 0x1B 0x5C s.ibuf k → (∀ j < k, ¬ pairAt 0x1B 0x5C s.ibuf j) →
    inner = stripAll 0x1B 0x5C (stripAll 0x1B 0x50 (s.ibuf.take (k + 2))) →
    (inner.length < 2 →
      exec .faDec s = .next { s with
        obuf := inner, plen := 0, rxchk := (0x00, 0x00), split := false, stat := .ok, cause := .none }) ∧
    ∀ (bytes : List Byte) (c1 c2 : Byte), inner = bytes ++ [c1, c2] →
      exec .faDec s = .next { s with
        obuf := inner, plen := bytes.length, rxchk := (c1, c2), split := true, stat := .ok, cause := .none }

/-- O24. R113: wrong, lowercase or non-hexadecimal checksum characters decode exactly like correct ones. -/
def Obligations.FaDecNeverComparesTheChecksum : Prop :=
  (∀ (s : State) (x : List Byte) (c1 c2 : Byte), markerFreeA (x ++ [c1, c2]) →
    s.ibuf = [0x1B, 0x50] ++ x ++ [c1, c2] ++ [0x1B, 0x5C] →
    exec .faDec s = .next { s with
      obuf := x ++ [c1, c2], plen := x.length, rxchk := (c1, c2), split := true, stat := .ok, cause := .none }) ∧
  ∀ s : State, ∃ t, exec .faDec s = .next t ∧ t.stat ≠ .fault

/-- O25. R120 with the frame of R64; no command-string is rejected or altered. -/
def Obligations.FbEncWrapsTheCommandString : Prop :=
  (∀ d : Byte, decode (.opw (0x12#5 ++ d)) = .ok .fbEnc) ∧
  ∀ s : State, exec .fbEnc s =
    .next { s with
      cacc := crc16 s.ibuf,
      obuf := [0x02] ++ s.ibuf ++ [0x23] ++ hex4 (crc16 s.ibuf) ++ [0x03],
      plen := s.ibuf.length + 7, stat := .ok, cause := .none }

/-- O26. R122, every end, with the fault entry of R158 and the pending entry of R159 written out. The clauses exclude each other: each names the first `03` and the first `02` before it. -/
def Obligations.FbDecUnwrapsAndChecksTheFirstFrame : Prop :=
  (∀ d : Byte, decode (.opw (0x13#5 ++ d)) = .ok .fbDec) ∧
  (∀ s : State, (0x03 : Byte) ∉ s.ibuf →
    exec .fbDec s = .next { s with obuf := [], plen := 0, stat := .pending, cause := .none }) ∧
  (∀ (s : State) (pre post : List Byte), s.ibuf = pre ++ [0x03] ++ post →
    (0x03 : Byte) ∉ pre → (0x02 : Byte) ∉ pre →
    exec .fbDec s = .next { s with
      obuf := [], plen := 0, stat := .fault, cause := .frameMalformed, fsticky := true }) ∧
  (∀ (s : State) (pre mid post : List Byte), s.ibuf = pre ++ [0x02] ++ mid ++ [0x03] ++ post →
    (0x03 : Byte) ∉ pre → (0x02 : Byte) ∉ pre → (0x03 : Byte) ∉ mid →
    mid.length < 5 ∨ mid[mid.length - 5]? ≠ some 0x23 →
    exec .fbDec s = .next { s with
      obuf := [], plen := 0, stat := .fault, cause := .frameMalformed, fsticky := true }) ∧
  ∀ (s : State) (pre cmd tail post : List Byte),
    s.ibuf = pre ++ [0x02] ++ cmd ++ [0x23] ++ tail ++ [0x03] ++ post → tail.length = 4 →
    (0x03 : Byte) ∉ pre → (0x02 : Byte) ∉ pre → (0x03 : Byte) ∉ cmd → (0x03 : Byte) ∉ tail →
    exec .fbDec s =
      if hex4 (crc16 cmd) = tail then
        .next { s with cacc := crc16 cmd, obuf := cmd, plen := cmd.length, stat := .ok, cause := .none }
      else
        .next { s with
          cacc := crc16 cmd, obuf := [], plen := 0, stat := .fault, cause := .checksumError, fsticky := true }

/-- O27. R130, for every configuration of the masks. -/
def Obligations.StDecaDecodesStatusByteA : Prop :=
  (∀ d : Byte, decode (.opw (0x18#5 ++ d)) = .ok (.stDecA d)) ∧
  ∀ (s : State) (d : Byte), exec (.stDecA d) s =
    .next { s with
      online := decide (d &&& s.cfg.mskOnline ≠ 0), paperEmpty := decide (d &&& s.cfg.mskPaperEmpty ≠ 0),
      ctrlError := decide (d &&& s.cfg.mskCtrlError ≠ 0), connected := true, stat := .ok, cause := .none }

/-- O28. R131, for every configuration of the masks. -/
def Obligations.StDecbDecodesStatusByteB : Prop :=
  (∀ d : Byte, decode (.opw (0x19#5 ++ d)) = .ok (.stDecB d)) ∧
  ∀ (s : State) (d : Byte), exec (.stDecB d) s =
    .next { s with
      fiscal := decide (d &&& s.cfg.mskFiscal ≠ 0), cmdOk := decide (d &&& s.cfg.mskCmdOk ≠ 0),
      inTrans := decide (d &&& s.cfg.mskInTrans ≠ 0), xferOk := decide (d &&& s.cfg.mskXferOk ≠ 0),
      connected := true, stat := .ok, cause := .none }

/-- O29. R132: the seven flags keep their last decoded values. -/
def Obligations.StNoreplyMarksTheLinkNotConnected : Prop :=
  (∀ d : Byte, decode (.opw (0x1A#5 ++ d)) = .ok .stNoReply) ∧
  ∀ s : State, exec .stNoReply s = .next { s with connected := false, stat := .ok, cause := .none }

/-- O30. The decode tables of R136, which the spec marks as derived. -/
def Obligations.DefaultMasksDecodeTheLowBits : Prop :=
  ∀ (s : State) (d : Byte) (cap : Option Nat), s.cfg = { Config.default with bufCap := cap } →
    exec (.stDecA d) s = .next { s with
      online := d.getLsbD 2, paperEmpty := d.getLsbD 1, ctrlError := d.getLsbD 0, connected := true, stat := .ok, cause := .none } ∧
    exec (.stDecB d) s = .next { s with
      fiscal := d.getLsbD 3, cmdOk := d.getLsbD 2, inTrans := d.getLsbD 1, xferOk := d.getLsbD 0,
      connected := true, stat := .ok, cause := .none }

/-- O31. R80. Legality of the masks (R29) is the premise: each mask lies within the low bits. -/
def Obligations.UpperStatusBitsChangeNoState : Prop :=
  ∀ (s : State) (d d' : Byte), s.cfg.legal = true →
    (d &&& 0x07 = d' &&& 0x07 → ∃ t, exec (.stDecA d) s = .next t ∧ exec (.stDecA d') s = .next t) ∧
    (d &&& 0x0F = d' &&& 0x0F → ∃ t, exec (.stDecB d) s = .next t ∧ exec (.stDecB d') s = .next t)

/-- O32. R140; `none` is an unbounded capacity. -/
def Obligations.BufPutAppendsOrOverflows : Prop :=
  (∀ d : Byte, decode (.opw (0x1B#5 ++ d)) = .ok (.bufPut d)) ∧
  (∀ (s : State) (d : Byte), s.cfg.bufCap ≠ some s.ibuf.length →
    exec (.bufPut d) s = .next { s with ibuf := s.ibuf ++ [d], stat := .ok, cause := .none }) ∧
  ∀ (s : State) (d : Byte), s.cfg.bufCap = some s.ibuf.length →
    exec (.bufPut d) s = .next { s with
      obuf := [], plen := 0, stat := .fault, cause := .bufOverflow, fsticky := true }

/-- O33. R141, with conflict C12: `RXCHK` is not written. -/
def Obligations.BufClrEmptiesBothBuffers : Prop :=
  (∀ d : Byte, decode (.opw (0x1C#5 ++ d)) = .ok .bufClr) ∧
  ∀ s : State, exec .bufClr s =
    .next { s with ibuf := [], obuf := [], plen := 0, split := false, stat := .ok, cause := .none }

/-- O34. R142, every register written out. -/
def Obligations.SysResetWritesEveryRegister : Prop :=
  (∀ d : Byte, decode (.opw (0x1D#5 ++ d)) = .ok .sysReset) ∧
  ∀ s : State, exec .sysReset s = .next { s with
      xacc := 0xFF, cacc := 0x0000, res := false, ibuf := [], obuf := [], plen := 0, rxchk := (0x00, 0x00),
      split := false, stat := .ok, cause := .none, fsticky := false, online := false, paperEmpty := false,
      ctrlError := false, fiscal := false, cmdOk := false, inTrans := false, xferOk := false, connected := false }

/-- O35. The model's reading (log 7) of R68 to R70: the host sends these bytes, "The block does not send it", "no operation of the block concerns it". -/
def Obligations.ControlBytesLeaveTheBlockUnchanged : Prop :=
  decode (.wire 0x10) = .ok .wireProbeA ∧ decode (.wire 0x05) = .ok .wireProbeB ∧
  decode (.wire 0x18) = .ok .wireCancel ∧
  ∀ s : State, exec .wireProbeA s = .next s ∧ exec .wireProbeB s = .next s ∧ exec .wireCancel s = .next s

/-- O36. R71, stated by division rather than by the bit slices the model uses. -/
def Obligations.HexTextIsUppercasePositional : Prop :=
  (List.range 16).map (fun n => hexDigit (BitVec.ofNat 4 n)) =
    [0x30, 0x31, 0x32, 0x33, 0x34, 0x35, 0x36, 0x37, 0x38, 0x39, 0x41, 0x42, 0x43, 0x44, 0x45, 0x46] ∧
  (∀ v : Byte, hex2 v = [hexDigit (BitVec.ofNat 4 (v.toNat / 16)), hexDigit (BitVec.ofNat 4 (v.toNat % 16))]) ∧
  ∀ w : Word16, hex4 w =
    [hexDigit (BitVec.ofNat 4 (w.toNat / 4096)), hexDigit (BitVec.ofNat 4 (w.toNat / 256 % 16)),
     hexDigit (BitVec.ofNat 4 (w.toNat / 16 % 16)), hexDigit (BitVec.ofNat 4 (w.toNat % 16))]

/-- O37. The primitive `strip_all` of R9: one left-to-right pass, without rescanning. -/
def Obligations.StripAllRemovesLeftmostOccurrences : Prop :=
  ∀ (p q : Byte) (x : List Byte),
    (pairFree p q x → stripAll p q x = x) ∧
    ∀ k, pairAt p q x k → (∀ j < k, ¬ pairAt p q x j) →
      stripAll p q x = x.take k ++ stripAll p q (x.drop (k + 2))

/-- O38. The law of R95, which the spec marks as derived. -/
def Obligations.X8StreamAndSumComputeXor8 : Prop :=
  ∀ (s : State) (bytes : List Byte),
    execAll (x8Stream bytes) s = .next { s with xacc := xor8 bytes, stat := .ok, cause := .none } ∧
    ∃ t, exec .x8Sum { s with ibuf := bytes } = .next t ∧ t.xacc = xor8 bytes ∧ t.obuf = hex2 (xor8 bytes)

/-- O39. The five laws (a) to (e) of R96, which the spec marks as derived. -/
def Obligations.Xor8IsAnOrderFreeParity : Prop :=
  (∀ s t : List Byte, s.Perm t → xor8 s = xor8 t) ∧
  (∀ s t : List Byte, xor8 (s ++ t) = xor8 s ^^^ xor8 t ^^^ 0xFF) ∧
  (∀ (s t u : List Byte) (b : Byte), xor8 (s ++ [b] ++ t ++ [b] ++ u) = xor8 (s ++ t ++ u)) ∧
  (∀ (s : List Byte) (b : Byte), xor8 (s ++ [b]) = 0x00 ↔ b = xor8 s) ∧
  ∀ (s : List Byte) (k : Nat), k < 8 →
    ((xor8 s).getLsbD k = true ↔ (s.countP fun b => b.getLsbD k) % 2 = 0)

/-- O40. The law of R97, which the spec marks as derived. -/
def Obligations.X8VfyDetectsEverySingleBitFlip : Prop :=
  ∀ (s : State) (bytes : List Byte),
    (s.ibuf = bytes ++ hex2 (xor8 bytes) → ∃ t, exec .x8Vfy s = .next t ∧ t.res = true) ∧
    ∀ (i k : Nat) (b : Byte), bytes[i]? = some b → k < 8 →
      s.ibuf = bytes.set i (b ^^^ BitVec.twoPow 8 k) ++ hex2 (xor8 bytes) →
      ∃ t, exec .x8Vfy s = .next t ∧ t.res = false ∧ t.stat = .ok

/-- O41. The law of R106, which the spec marks as derived; it holds whatever the open step is (log 5). -/
def Obligations.C16StreamAndSumComputeCrc16 : Prop :=
  ∀ (s : State) (bytes more : List Byte),
    execAll (c16Stream bytes) s = .next { s with cacc := crc16 bytes, stat := .ok, cause := .none } ∧
    (∃ t, exec .c16Sum { s with ibuf := bytes } = .next t ∧ t.cacc = crc16 bytes ∧ t.obuf = hex4 (crc16 bytes)) ∧
    crc16 (bytes ++ more) = more.foldl Config.crc16Step (crc16 bytes)

/-- O42. The law of R107, which the spec marks as derived. -/
def Obligations.Hex4IsABijectionOntoUppercaseText : Prop :=
  (∀ v w : Word16, hex4 v = hex4 w → v = w) ∧
  (∀ l : List Byte, l.length = 4 →
    (∀ c ∈ l, (0x30 ≤ c.toNat ∧ c.toNat ≤ 0x39) ∨ (0x41 ≤ c.toNat ∧ c.toNat ≤ 0x46)) → ∃ w, hex4 w = l) ∧
  hex4 (crc16 []) = [0x30, 0x30, 0x30, 0x30]

/-- O43. The expansion of R84 and the consequence (a) of R51. -/
def Obligations.LoadFillsTheInputBuffer : Prop :=
  ∀ (s : State) (bytes : List Byte), fitsInput s bytes.length →
    execAll (load bytes) s = .next { s with ibuf := bytes, obuf := [], plen := 0, split := false, stat := .ok, cause := .none }

/-- O44. The round-trip law of R114, which the spec marks as derived. -/
def Obligations.FamilyARoundTrip : Prop :=
  ∀ (s : State) (x : List Byte), markerFreeA x → fitsInput s (x.length + 6) →
    ∃ t u, execAll (load x ++ [.faEnc]) s = .next t ∧ execAll (load t.obuf ++ [.faDec]) t = .next u ∧
      t.obuf = [0x1B, 0x50] ++ x ++ hex2 (xor8 x) ++ [0x1B, 0x5C] ∧
      u.stat = .ok ∧ u.split = true ∧ u.payload = x ∧ readRxchk u = hex2 (xor8 x) ∧
      u.obuf = x ++ hex2 (xor8 x)

/-- O45. The round-trip law of R124, which the spec marks as derived; it holds whatever the open step is (log 5). -/
def Obligations.FamilyBRoundTrip : Prop :=
  ∀ (s : State) (x : List Byte), (0x03 : Byte) ∉ x → fitsInput s (x.length + 7) →
    ∃ t u, execAll (load x ++ [.fbEnc]) s = .next t ∧ execAll (load t.obuf ++ [.fbDec]) t = .next u ∧
      t.obuf = [0x02] ++ x ++ [0x23] ++ hex4 (crc16 x) ++ [0x03] ∧
      u.stat = .ok ∧ u.cause = .none ∧ u.obuf = x ∧ u.plen = x.length ∧ u.cacc = crc16 x ∧ u.fsticky = s.fsticky

/-- O46. R150; the clauses that say which operation raises which cause go beyond it (see R151 to R153). -/
def Obligations.EveryOperationEndsOkPendingOrFault : Prop :=
  statCode .ok = 0 ∧ statCode .pending = 1 ∧ statCode .fault = 2 ∧
  ∀ (i : Instr) (s : State), ∃ t, exec i s = .next t ∧
    (i.isOperation = true →
      (t.stat = .ok ∧ t.cause = .none) ∨
      (t.stat = .pending ∧ t.cause = .none ∧ t.obuf = [] ∧ t.plen = 0 ∧ (i = .faDec ∨ i = .fbDec)) ∨
      (t.stat = .fault ∧ t.obuf = [] ∧ t.plen = 0 ∧ t.fsticky = true ∧ t.ibuf = s.ibuf ∧
        ((i = .fbDec ∧ t.cause = .checksumError ∧
            ∃ pre cmd tail post, s.ibuf = pre ++ [0x02] ++ cmd ++ [0x23] ++ tail ++ [0x03] ++ post ∧
              tail.length = 4 ∧ t.cacc = crc16 cmd ∧ hex4 (crc16 cmd) ≠ tail) ∨
         (i = .fbDec ∧ t.cause = .frameMalformed ∧ (0x03 : Byte) ∈ s.ibuf ∧ t.cacc = s.cacc) ∨
         (∃ d, i = .bufPut d ∧ t.cause = .bufOverflow ∧ s.cfg.bufCap = some s.ibuf.length))))

/-- O47. The lists of writers of R10 to R12, R15 to R23, R26 and R27, read from the other side; the spec marks its own summary R25 as derived. -/
def Obligations.RegistersAreWrittenOnlyByTheirOperations : Prop :=
  ∀ (i : Instr) (s : State), ∃ t, exec i s = .next t ∧ t.cfg = s.cfg ∧ t.pending = s.pending ∧
    (match i with
      | .x8Init | .x8Upd _ | .x8Sum | .x8Vfy | .faEnc | .sysReset => True
      | _ => t.xacc = s.xacc) ∧
    (match i with
      | .c16Init | .c16Upd _ | .c16Sum | .c16Vfy | .fbEnc | .fbDec | .sysReset => True
      | _ => t.cacc = s.cacc) ∧
    (match i with
      | .x8Vfy | .c16Vfy | .sysReset => True
      | _ => t.res = s.res) ∧
    (match i with
      | .bufPut _ | .bufClr | .sysReset => True
      | _ => t.ibuf = s.ibuf) ∧
    (match i with
      | .x8Hex | .x8Sum | .c16Hex | .c16Sum | .faEnc | .faDec | .fbEnc | .fbDec | .bufPut _ | .bufClr | .sysReset => True
      | _ => t.obuf = s.obuf ∧ t.plen = s.plen) ∧
    (match i with
      | .faDec | .sysReset => True
      | _ => t.rxchk = s.rxchk) ∧
    (match i with
      | .faDec | .bufClr | .sysReset => True
      | _ => t.split = s.split) ∧
    (i.isOperation = false → t.stat = s.stat ∧ t.cause = s.cause) ∧
    (match i with
      | .fbDec | .bufPut _ | .sysReset => True
      | _ => t.fsticky = s.fsticky) ∧
    (match i with
      | .stDecA _ | .sysReset => True
      | _ => t.online = s.online ∧ t.paperEmpty = s.paperEmpty ∧ t.ctrlError = s.ctrlError) ∧
    (match i with
      | .stDecB _ | .sysReset => True
      | _ => t.fiscal = s.fiscal ∧ t.cmdOk = s.cmdOk ∧ t.inTrans = s.inTrans ∧ t.xferOk = s.xferOk) ∧
    (match i with
      | .stDecA _ | .stDecB _ | .stNoReply | .sysReset => True
      | _ => t.connected = s.connected)

/-- O48. R24, by comparing two runs that differ only in the flags of R22, R23 and R26. -/
def Obligations.LinkFlagsGateNothing : Prop :=
  ∀ (i : Instr) (s : State) (on pe ce fi co it xo cn : Bool),
    ∃ t t', exec i s = .next t ∧
      exec i { s with
        online := on, paperEmpty := pe, ctrlError := ce, fiscal := fi, cmdOk := co, inTrans := it, xferOk := xo,
        connected := cn } = .next t' ∧
      { t' with
        online := t.online, paperEmpty := t.paperEmpty, ctrlError := t.ctrlError, fiscal := t.fiscal,
        cmdOk := t.cmdOk, inTrans := t.inTrans, xferOk := t.xferOk, connected := t.connected } = t ∧
      (t'.online = t.online ∨ (t.online = s.online ∧ t'.online = on)) ∧
      (t'.paperEmpty = t.paperEmpty ∨ (t.paperEmpty = s.paperEmpty ∧ t'.paperEmpty = pe)) ∧
      (t'.ctrlError = t.ctrlError ∨ (t.ctrlError = s.ctrlError ∧ t'.ctrlError = ce)) ∧
      (t'.fiscal = t.fiscal ∨ (t.fiscal = s.fiscal ∧ t'.fiscal = fi)) ∧
      (t'.cmdOk = t.cmdOk ∨ (t.cmdOk = s.cmdOk ∧ t'.cmdOk = co)) ∧
      (t'.inTrans = t.inTrans ∨ (t.inTrans = s.inTrans ∧ t'.inTrans = it)) ∧
      (t'.xferOk = t.xferOk ∨ (t.xferOk = s.xferOk ∧ t'.xferOk = xo)) ∧
      (t'.connected = t.connected ∨ (t.connected = s.connected ∧ t'.connected = cn))

/-- O49. The sentence "No operation reads `OBUF`" of R42, by comparing two runs. -/
def Obligations.OutputBufferIsReadByNoOperation : Prop :=
  ∀ (i : Instr) (s : State) (o : List Byte) (n : Nat),
    ∃ t t', exec i s = .next t ∧ exec i { s with obuf := o, plen := n } = .next t' ∧
      (t' = t ∨ (t.obuf = s.obuf ∧ t.plen = s.plen ∧ t' = { t with obuf := o, plen := n }))

/-- O50. R27, by comparing two runs that differ only in the outcome registers. -/
def Obligations.StickyFaultRecordsAndGatesNothing : Prop :=
  State.reset.fsticky = false ∧
  ∀ (i : Instr) (s : State) (a : Stat) (c : Cause) (f : Bool), i.isOperation = true →
    ∃ t, exec i s = .next t ∧
      exec i { s with stat := a, cause := c, fsticky := f } =
        .next { t with fsticky := if i = .sysReset then false else f || t.stat == .fault }

/-- O51. The last sentence of R47, which the spec marks as derived. -/
def Obligations.RepeatingAnOperationChangesNothing : Prop :=
  ∀ (i : Instr) (s : State),
    i ∈ ([.x8Sum, .x8Vfy, .c16Sum, .c16Vfy, .faEnc, .faDec, .fbEnc, .fbDec] : List Instr) →
    ∃ t, exec i s = .next t ∧ exec i t = .next t

/-- O52. The sentence "every decode starts from the beginning of `IBUF` and keeps no progress state" of R155 and the purity of R47. -/
def Obligations.ResultsDependOnTheInputBufferOnly : Prop :=
  ∀ (i : Instr) (s s' : State),
    i ∈ ([.x8Sum, .x8Vfy, .c16Sum, .c16Vfy, .faEnc, .faDec, .fbEnc, .fbDec] : List Instr) → s.ibuf = s'.ibuf →
    ∃ t t', exec i s = .next t ∧ exec i s' = .next t' ∧ t.stat = t'.stat ∧ t.cause = t'.cause ∧
      (if i = .x8Vfy ∨ i = .c16Vfy then t.res = t'.res else t.obuf = t'.obuf ∧ t.plen = t'.plen) ∧
      (i = .faDec → t.rxchk = t'.rxchk ∧ t.split = t'.split)

/-- O53. The sentence "`FSTICKY` stays 1 until `SYS.RESET` or hardware reset" of R160, over runs of any length. -/
def Obligations.FstickyStaysUntilReset : Prop :=
  ∀ (n : Nat) (s t : State), s.fsticky = true →
    (∀ h ∈ s.pending.take n, h ≠ .hardwareReset ∧ ∀ d : Byte, h ≠ .instr (.opw (0x1D#5 ++ d))) →
    Host.Core.run Sys2Proof.core n s = .next t → t.fsticky = true

/-- O54. R28, over runs of any length; the CRC step is a constant and cannot change at all. -/
def Obligations.ConfigurationIsNeverWritten : Prop :=
  ∀ (n : Nat) (s t : State), Host.Core.run Sys2Proof.core n s = .next t → t.cfg = s.cfg

/-- O55. The bounds of R15 to R17 and the coherence of R20, R21, R27, R158 and R159, as one inductive invariant. -/
def Obligations.InvIsKeptByEveryStep : Prop :=
  ∀ s t : State, StateInv s → step s = .next t → StateInv t

/-- O56. R170 for the registers; that `State.reset` has the default configuration is the model's choice (log 4), so the statement ranges over all legal ones. -/
def Obligations.InvHoldsAtReset : Prop :=
  ∀ (c : Config) (inputs : List HostInput), c.legal = true → StateInv { State.reset with cfg := c, pending := inputs }

/-- O57. R170, register by register; the two fields it does not give are left open. -/
def Obligations.ResetLeavesTheListedValues : Prop :=
  ∃ (c : Config) (inputs : List HostInput), State.reset =
    { xacc := 0xFF, cacc := 0x0000, res := false, ibuf := [], obuf := [], plen := 0, rxchk := (0x00, 0x00),
      split := false, stat := .ok, cause := .none, fsticky := false, online := false, paperEmpty := false,
      ctrlError := false, fiscal := false, cmdOk := false, inTrans := false, xferOk := false, connected := false,
      cfg := c, pending := inputs }

/-- O58. The numbers of R20 and R21. -/
def Obligations.OutcomeRegistersReadAsTheirNumbers : Prop :=
  ∀ s : State,
    readReg .STAT s = (match s.stat with | .ok => 0 | .pending => 1 | .fault => 2) ∧
    readReg .CAUSE s = (match s.cause with
      | .none => 0 | .checksumError => 1 | .frameMalformed => 2 | .bufOverflow => 3 | .illegalOp => 4) ∧
    readReg .STAT s < 3 ∧ readReg .CAUSE s < 5 ∧
    readReg .ILEN s = s.ibuf.length ∧ readReg .OLEN s = s.obuf.length

/-- O59. The law of R173, which the spec marks as derived. -/
def Obligations.AnyOperationMayFollowReset : Prop :=
  ∀ (i : Instr) (c : Config) (rest : List HostInput),
    ∃ t, exec i { State.reset with cfg := c, pending := rest } = .next t ∧
      step { State.reset with cfg := c, pending := .instr (encode i) :: rest } = .next t

end
end

