-- ==== Sys2Proof/Laws/Bytes.lean ====
section
/-! SUPPORT. What the primitives of `00_scope.md` R9 and the scans built on them can do, each said once. -/

namespace Sys2Proof.Machine

open Sys2Proof

/-! ### Rendering -/

@[simp] theorem hex2_length (v : Byte) : (hex2 v).length = 2 := rfl

@[simp] theorem hex4_length (w : Word16) : (hex4 w).length = 4 := rfl

/-- A rendered digit is one of the 16 characters of R71, so it is none of the markers of either family. -/
theorem hexDigit_ne_marker (n : BitVec 4) :
    hexDigit n ≠ 0x1B ∧ hexDigit n ≠ 0x50 ∧ hexDigit n ≠ 0x5C ∧ hexDigit n ≠ 0x02 ∧ hexDigit n ≠ 0x03 ∧ hexDigit n ≠ 0x23 := by
  revert n; decide

theorem hexDigit_injective : Function.Injective hexDigit := by
  intro a b; revert a b; decide

/-! ### Folds -/

@[simp] theorem xor8_nil : xor8 [] = 0xFF := rfl

@[simp] theorem crc16_nil : crc16 [] = 0x0000 := rfl

@[simp] theorem xor8_snoc (s : List Byte) (b : Byte) : xor8 (s ++ [b]) = xor8 s ^^^ b := by simp [xor8, xor8Step]

@[simp] theorem crc16_snoc (s : List Byte) (b : Byte) : crc16 (s ++ [b]) = Config.crc16Step (crc16 s) b := by
  simp [crc16]

@[simp] theorem frameA_length (x : List Byte) : (frameA x).length = x.length + 6 := by simp [frameA]

@[simp] theorem frameB_length (x : List Byte) : (frameB x).length = x.length + 7 := by simp [frameB]

/-! ### Slices and splits -/

theorem slice_length (s : List Byte) (i j : Nat) : (slice s i j).length = min j s.length - i := by simp [slice]

theorem verifyOperand_short {k : Nat} {s : List Byte} (h : s.length < k) : verifyOperand k s = none := by
  simp [verifyOperand, h]

theorem verifyOperand_append {k : Nat} (bytes code : List Byte) (h : code.length = k) :
    verifyOperand k (bytes ++ code) = some (bytes, code) := by
  subst h; simp [verifyOperand]

/-- A verify operand is found exactly when it is a split of the buffer with a code of `k` bytes. -/
theorem verifyOperand_eq_some {k : Nat} {s bytes code : List Byte} :
    verifyOperand k s = some (bytes, code) ↔ s = bytes ++ code ∧ code.length = k := by
  constructor
  · intro h
    unfold verifyOperand at h
    split at h
    · cases h
    · cases h
      exact ⟨(List.take_append_drop _ _).symm, by simp; omega⟩
  · rintro ⟨rfl, h⟩
    exact verifyOperand_append bytes code h

theorem lastTwo_append (x : List Byte) (c1 c2 : Byte) : lastTwo (x ++ [c1, c2]) = some (c1, c2) := by simp [lastTwo]

theorem lastTwo_short {x : List Byte} (h : x.length < 2) : lastTwo x = none := by
  match x, h with
  | [], _ => rfl
  | [_], _ => rfl

/-- The last two bytes exist exactly when the sequence ends in them. -/
theorem lastTwo_eq_some {x : List Byte} {c1 c2 : Byte} : lastTwo x = some (c1, c2) ↔ ∃ y, x = y ++ [c1, c2] := by
  constructor
  · intro h
    unfold lastTwo at h
    split at h
    · rename_i d2 d1 rest hr
      cases h
      exact ⟨rest.reverse, by rw [← List.reverse_reverse x, hr]; simp⟩
    · cases h
  · rintro ⟨y, rfl⟩
    exact lastTwo_append y c1 c2

/-! ### Search -/

theorem find_eq_none {pat s : List Byte} (hp : pat ≠ []) :
    find pat s = none ↔ ∀ i, ¬ pat <+: s.drop i := by
  induction s with
  | nil => simp [find, hp]
  | cons b rest ih =>
    rw [find]
    by_cases h : pat <+: b :: rest
    · rw [if_pos (by simpa using h)]
      simp only [reduceCtorEq, false_iff, not_forall, not_not]
      exact ⟨0, h⟩
    · rw [if_neg (by simpa using h), Option.map_eq_none_iff, ih]
      constructor
      · rintro hr (_ | i)
        · exact h
        · exact hr i
      · intro hr i
        exact hr (i + 1)

theorem find_eq_some {pat s : List Byte} (hp : pat ≠ []) {k : Nat} :
    find pat s = some k ↔ pat <+: s.drop k ∧ ∀ i < k, ¬ pat <+: s.drop i := by
  induction s generalizing k with
  | nil => simp [find, hp]
  | cons b rest ih =>
    rw [find]
    by_cases h : pat <+: b :: rest
    · rw [if_pos (by simpa using h)]
      constructor
      · intro hk; cases hk; exact ⟨h, by simp⟩
      · rintro ⟨_, hm⟩
        rcases k with _ | k
        · rfl
        · exact absurd h (hm 0 (by omega))
    · rw [if_neg (by simpa using h), Option.map_eq_some_iff]
      constructor
      · rintro ⟨j, hj, rfl⟩
        obtain ⟨h1, h2⟩ := ih.mp hj
        refine ⟨h1, ?_⟩
        rintro (_ | i) hi
        · exact h
        · exact h2 i (by omega)
      · rintro ⟨h1, h2⟩
        rcases k with _ | k
        · exact absurd h1 h
        · exact ⟨k, ih.mpr ⟨h1, fun i hi => h2 (i + 1) (by omega)⟩, rfl⟩

/-- Where `find` looks for one byte it answers the length of the part before the first occurrence. -/
theorem find_singleton_append {b : Byte} {pre post : List Byte} (h : b ∉ pre) :
    find [b] (pre ++ b :: post) = some pre.length := by
  induction pre with
  | nil => simp [find]
  | cons a rest ih =>
    have ha : ¬ b = a := fun e => h (by simp [e])
    have hr : b ∉ rest := fun e => h (by simp [e])
    simp [find, ha, ih hr]

theorem find_singleton_none {b : Byte} {s : List Byte} (h : b ∉ s) : find [b] s = none := by
  induction s with
  | nil => rfl
  | cons a rest ih =>
    have ha : ¬ b = a := fun e => h (by simp [e])
    have hr : b ∉ rest := fun e => h (by simp [e])
    simp [find, ha, ih hr]

/-- Finding one byte splits the sequence at its first occurrence. -/
theorem find_singleton_split {b : Byte} {s : List Byte} {k : Nat} (h : find [b] s = some k) :
    ∃ pre post, s = pre ++ b :: post ∧ pre.length = k ∧ b ∉ pre := by
  induction s generalizing k with
  | nil => simp [find] at h
  | cons a rest ih =>
    rw [find] at h
    by_cases ha : b = a
    · subst ha
      rw [if_pos (by simp)] at h
      cases h
      exact ⟨[], rest, rfl, rfl, by simp⟩
    · rw [if_neg (by simp [ha])] at h
      obtain ⟨j, hj, rfl⟩ := Option.map_eq_some_iff.mp h
      obtain ⟨pre, post, rfl, rfl, hn⟩ := ih hj
      exact ⟨a :: pre, post, rfl, rfl, by simp [ha, hn]⟩

/-- A located pair lies inside the sequence. -/
theorem find_pair_bound {p q : Byte} {s : List Byte} {k : Nat} (h : find [p, q] s = some k) : k + 2 ≤ s.length := by
  obtain ⟨⟨t, ht⟩, -⟩ := (find_eq_some (by simp)).mp h
  have := congrArg List.length ht
  simp at this
  omega

/-! ### Stripping -/

theorem stripAll_length_le (p q : Byte) (s : List Byte) : (stripAll p q s).length ≤ s.length := by
  fun_induction stripAll p q s <;> simp_all; omega

theorem stripAll_pair (p q : Byte) (rest : List Byte) : stripAll p q (p :: q :: rest) = stripAll p q rest := by
  simp [stripAll]

theorem stripAll_skip {p q a b : Byte} (h : ¬ (a = p ∧ b = q)) (rest : List Byte) :
    stripAll p q (a :: b :: rest) = a :: stripAll p q (b :: rest) := by
  simp [stripAll, h]

/-- The inner bytes are never longer than the read buffer. -/
theorem innerA_length_le {b inner : List Byte} (h : innerA b = some inner) : inner.length ≤ b.length := by
  unfold innerA at h
  split at h
  · cases h
  · cases h
    refine le_trans (stripAll_length_le _ _ _) (le_trans (stripAll_length_le _ _ _) ?_)
    simp

/-! ### The family B scan -/

/-- The scan without an `ETX_B`. -/
theorem scanB_incomplete {b : List Byte} (h : etxB ∉ b) : scanB b = .incomplete := by
  simp [scanB, find_singleton_none h]

/-- The command-string the scan delivers is shorter than the read buffer. -/
theorem scanB_fields_length {b cmd tail : List Byte} (h : scanB b = .fields cmd tail) : cmd.length ≤ b.length := by
  unfold scanB at h
  split at h
  · cases h
  · split at h
    · cases h
    · split at h
      · cases h
      · split at h
        · cases h
        · cases h
          rw [slice_length]
          omega

end Sys2Proof.Machine
end

