-- ==== Sys2Proof/Laws/Decode.lean ====
section
/-! SUPPORT. The fields of an operation word, and the decoder over them. -/

namespace Sys2Proof

@[simp] theorem op_append (op : BitVec 5) (d : Byte) : OpWord.op (op ++ d) = op := by revert op d; decide

@[simp] theorem din_append (op : BitVec 5) (d : Byte) : OpWord.din (op ++ d) = d := by revert op d; decide

/-- Every operation word is its code followed by its immediate (R60). -/
theorem append_op_din (w : OpWord) : OpWord.op w ++ OpWord.din w = w := by revert w; decide

/-- The decoder reads the two fields and nothing else. -/
@[simp] theorem decode_append (op : BitVec 5) (d : Byte) : decode (.opw (op ++ d)) = decodeFields op d := by
  simp only [decode, decodeOpw, op_append, din_append]

end Sys2Proof
end

