-- ==== Sys2Proof/Laws/State.lean ====
section
/-! SUPPORT. What each named operation leaves in each register: one lemma per field per update, so that no later proof unfolds a
record update. -/

namespace Sys2Proof.Machine

open Sys2Proof

variable (s : State)

/-! ### `setXacc` -/

@[simp] theorem State.setXacc_xacc (v : Byte) : (s.setXacc v).xacc = v := rfl
@[simp] theorem State.setXacc_cacc (v : Byte) : (s.setXacc v).cacc = s.cacc := rfl
@[simp] theorem State.setXacc_res (v : Byte) : (s.setXacc v).res = s.res := rfl
@[simp] theorem State.setXacc_ibuf (v : Byte) : (s.setXacc v).ibuf = s.ibuf := rfl
@[simp] theorem State.setXacc_obuf (v : Byte) : (s.setXacc v).obuf = s.obuf := rfl
@[simp] theorem State.setXacc_plen (v : Byte) : (s.setXacc v).plen = s.plen := rfl
@[simp] theorem State.setXacc_rxchk (v : Byte) : (s.setXacc v).rxchk = s.rxchk := rfl
@[simp] theorem State.setXacc_split (v : Byte) : (s.setXacc v).split = s.split := rfl
@[simp] theorem State.setXacc_stat (v : Byte) : (s.setXacc v).stat = s.stat := rfl
@[simp] theorem State.setXacc_cause (v : Byte) : (s.setXacc v).cause = s.cause := rfl
@[simp] theorem State.setXacc_fsticky (v : Byte) : (s.setXacc v).fsticky = s.fsticky := rfl
@[simp] theorem State.setXacc_online (v : Byte) : (s.setXacc v).online = s.online := rfl
@[simp] theorem State.setXacc_paperEmpty (v : Byte) : (s.setXacc v).paperEmpty = s.paperEmpty := rfl
@[simp] theorem State.setXacc_ctrlError (v : Byte) : (s.setXacc v).ctrlError = s.ctrlError := rfl
@[simp] theorem State.setXacc_fiscal (v : Byte) : (s.setXacc v).fiscal = s.fiscal := rfl
@[simp] theorem State.setXacc_cmdOk (v : Byte) : (s.setXacc v).cmdOk = s.cmdOk := rfl
@[simp] theorem State.setXacc_inTrans (v : Byte) : (s.setXacc v).inTrans = s.inTrans := rfl
@[simp] theorem State.setXacc_xferOk (v : Byte) : (s.setXacc v).xferOk = s.xferOk := rfl
@[simp] theorem State.setXacc_connected (v : Byte) : (s.setXacc v).connected = s.connected := rfl
@[simp] theorem State.setXacc_cfg (v : Byte) : (s.setXacc v).cfg = s.cfg := rfl
@[simp] theorem State.setXacc_pending (v : Byte) : (s.setXacc v).pending = s.pending := rfl

/-! ### `setCacc` -/

@[simp] theorem State.setCacc_xacc (v : Word16) : (s.setCacc v).xacc = s.xacc := rfl
@[simp] theorem State.setCacc_cacc (v : Word16) : (s.setCacc v).cacc = v := rfl
@[simp] theorem State.setCacc_res (v : Word16) : (s.setCacc v).res = s.res := rfl
@[simp] theorem State.setCacc_ibuf (v : Word16) : (s.setCacc v).ibuf = s.ibuf := rfl
@[simp] theorem State.setCacc_obuf (v : Word16) : (s.setCacc v).obuf = s.obuf := rfl
@[simp] theorem State.setCacc_plen (v : Word16) : (s.setCacc v).plen = s.plen := rfl
@[simp] theorem State.setCacc_rxchk (v : Word16) : (s.setCacc v).rxchk = s.rxchk := rfl
@[simp] theorem State.setCacc_split (v : Word16) : (s.setCacc v).split = s.split := rfl
@[simp] theorem State.setCacc_stat (v : Word16) : (s.setCacc v).stat = s.stat := rfl
@[simp] theorem State.setCacc_cause (v : Word16) : (s.setCacc v).cause = s.cause := rfl
@[simp] theorem State.setCacc_fsticky (v : Word16) : (s.setCacc v).fsticky = s.fsticky := rfl
@[simp] theorem State.setCacc_online (v : Word16) : (s.setCacc v).online = s.online := rfl
@[simp] theorem State.setCacc_paperEmpty (v : Word16) : (s.setCacc v).paperEmpty = s.paperEmpty := rfl
@[simp] theorem State.setCacc_ctrlError (v : Word16) : (s.setCacc v).ctrlError = s.ctrlError := rfl
@[simp] theorem State.setCacc_fiscal (v : Word16) : (s.setCacc v).fiscal = s.fiscal := rfl
@[simp] theorem State.setCacc_cmdOk (v : Word16) : (s.setCacc v).cmdOk = s.cmdOk := rfl
@[simp] theorem State.setCacc_inTrans (v : Word16) : (s.setCacc v).inTrans = s.inTrans := rfl
@[simp] theorem State.setCacc_xferOk (v : Word16) : (s.setCacc v).xferOk = s.xferOk := rfl
@[simp] theorem State.setCacc_connected (v : Word16) : (s.setCacc v).connected = s.connected := rfl
@[simp] theorem State.setCacc_cfg (v : Word16) : (s.setCacc v).cfg = s.cfg := rfl
@[simp] theorem State.setCacc_pending (v : Word16) : (s.setCacc v).pending = s.pending := rfl

/-! ### `setRes` -/

@[simp] theorem State.setRes_xacc (b : Bool) : (s.setRes b).xacc = s.xacc := rfl
@[simp] theorem State.setRes_cacc (b : Bool) : (s.setRes b).cacc = s.cacc := rfl
@[simp] theorem State.setRes_res (b : Bool) : (s.setRes b).res = b := rfl
@[simp] theorem State.setRes_ibuf (b : Bool) : (s.setRes b).ibuf = s.ibuf := rfl
@[simp] theorem State.setRes_obuf (b : Bool) : (s.setRes b).obuf = s.obuf := rfl
@[simp] theorem State.setRes_plen (b : Bool) : (s.setRes b).plen = s.plen := rfl
@[simp] theorem State.setRes_rxchk (b : Bool) : (s.setRes b).rxchk = s.rxchk := rfl
@[simp] theorem State.setRes_split (b : Bool) : (s.setRes b).split = s.split := rfl
@[simp] theorem State.setRes_stat (b : Bool) : (s.setRes b).stat = s.stat := rfl
@[simp] theorem State.setRes_cause (b : Bool) : (s.setRes b).cause = s.cause := rfl
@[simp] theorem State.setRes_fsticky (b : Bool) : (s.setRes b).fsticky = s.fsticky := rfl
@[simp] theorem State.setRes_online (b : Bool) : (s.setRes b).online = s.online := rfl
@[simp] theorem State.setRes_paperEmpty (b : Bool) : (s.setRes b).paperEmpty = s.paperEmpty := rfl
@[simp] theorem State.setRes_ctrlError (b : Bool) : (s.setRes b).ctrlError = s.ctrlError := rfl
@[simp] theorem State.setRes_fiscal (b : Bool) : (s.setRes b).fiscal = s.fiscal := rfl
@[simp] theorem State.setRes_cmdOk (b : Bool) : (s.setRes b).cmdOk = s.cmdOk := rfl
@[simp] theorem State.setRes_inTrans (b : Bool) : (s.setRes b).inTrans = s.inTrans := rfl
@[simp] theorem State.setRes_xferOk (b : Bool) : (s.setRes b).xferOk = s.xferOk := rfl
@[simp] theorem State.setRes_connected (b : Bool) : (s.setRes b).connected = s.connected := rfl
@[simp] theorem State.setRes_cfg (b : Bool) : (s.setRes b).cfg = s.cfg := rfl
@[simp] theorem State.setRes_pending (b : Bool) : (s.setRes b).pending = s.pending := rfl

/-! ### `deliver` -/

@[simp] theorem State.deliver_xacc (out : List Byte) : (s.deliver out).xacc = s.xacc := rfl
@[simp] theorem State.deliver_cacc (out : List Byte) : (s.deliver out).cacc = s.cacc := rfl
@[simp] theorem State.deliver_res (out : List Byte) : (s.deliver out).res = s.res := rfl
@[simp] theorem State.deliver_ibuf (out : List Byte) : (s.deliver out).ibuf = s.ibuf := rfl
@[simp] theorem State.deliver_obuf (out : List Byte) : (s.deliver out).obuf = out := rfl
@[simp] theorem State.deliver_plen (out : List Byte) : (s.deliver out).plen = out.length := rfl
@[simp] theorem State.deliver_rxchk (out : List Byte) : (s.deliver out).rxchk = s.rxchk := rfl
@[simp] theorem State.deliver_split (out : List Byte) : (s.deliver out).split = s.split := rfl
@[simp] theorem State.deliver_stat (out : List Byte) : (s.deliver out).stat = s.stat := rfl
@[simp] theorem State.deliver_cause (out : List Byte) : (s.deliver out).cause = s.cause := rfl
@[simp] theorem State.deliver_fsticky (out : List Byte) : (s.deliver out).fsticky = s.fsticky := rfl
@[simp] theorem State.deliver_online (out : List Byte) : (s.deliver out).online = s.online := rfl
@[simp] theorem State.deliver_paperEmpty (out : List Byte) : (s.deliver out).paperEmpty = s.paperEmpty := rfl
@[simp] theorem State.deliver_ctrlError (out : List Byte) : (s.deliver out).ctrlError = s.ctrlError := rfl
@[simp] theorem State.deliver_fiscal (out : List Byte) : (s.deliver out).fiscal = s.fiscal := rfl
@[simp] theorem State.deliver_cmdOk (out : List Byte) : (s.deliver out).cmdOk = s.cmdOk := rfl
@[simp] theorem State.deliver_inTrans (out : List Byte) : (s.deliver out).inTrans = s.inTrans := rfl
@[simp] theorem State.deliver_xferOk (out : List Byte) : (s.deliver out).xferOk = s.xferOk := rfl
@[simp] theorem State.deliver_connected (out : List Byte) : (s.deliver out).connected = s.connected := rfl
@[simp] theorem State.deliver_cfg (out : List Byte) : (s.deliver out).cfg = s.cfg := rfl
@[simp] theorem State.deliver_pending (out : List Byte) : (s.deliver out).pending = s.pending := rfl

/-! ### `appendInput` -/

@[simp] theorem State.appendInput_xacc (b : Byte) : (s.appendInput b).xacc = s.xacc := rfl
@[simp] theorem State.appendInput_cacc (b : Byte) : (s.appendInput b).cacc = s.cacc := rfl
@[simp] theorem State.appendInput_res (b : Byte) : (s.appendInput b).res = s.res := rfl
@[simp] theorem State.appendInput_ibuf (b : Byte) : (s.appendInput b).ibuf = s.ibuf ++ [b] := rfl
@[simp] theorem State.appendInput_obuf (b : Byte) : (s.appendInput b).obuf = s.obuf := rfl
@[simp] theorem State.appendInput_plen (b : Byte) : (s.appendInput b).plen = s.plen := rfl
@[simp] theorem State.appendInput_rxchk (b : Byte) : (s.appendInput b).rxchk = s.rxchk := rfl
@[simp] theorem State.appendInput_split (b : Byte) : (s.appendInput b).split = s.split := rfl
@[simp] theorem State.appendInput_stat (b : Byte) : (s.appendInput b).stat = s.stat := rfl
@[simp] theorem State.appendInput_cause (b : Byte) : (s.appendInput b).cause = s.cause := rfl
@[simp] theorem State.appendInput_fsticky (b : Byte) : (s.appendInput b).fsticky = s.fsticky := rfl
@[simp] theorem State.appendInput_online (b : Byte) : (s.appendInput b).online = s.online := rfl
@[simp] theorem State.appendInput_paperEmpty (b : Byte) : (s.appendInput b).paperEmpty = s.paperEmpty := rfl
@[simp] theorem State.appendInput_ctrlError (b : Byte) : (s.appendInput b).ctrlError = s.ctrlError := rfl
@[simp] theorem State.appendInput_fiscal (b : Byte) : (s.appendInput b).fiscal = s.fiscal := rfl
@[simp] theorem State.appendInput_cmdOk (b : Byte) : (s.appendInput b).cmdOk = s.cmdOk := rfl
@[simp] theorem State.appendInput_inTrans (b : Byte) : (s.appendInput b).inTrans = s.inTrans := rfl
@[simp] theorem State.appendInput_xferOk (b : Byte) : (s.appendInput b).xferOk = s.xferOk := rfl
@[simp] theorem State.appendInput_connected (b : Byte) : (s.appendInput b).connected = s.connected := rfl
@[simp] theorem State.appendInput_cfg (b : Byte) : (s.appendInput b).cfg = s.cfg := rfl
@[simp] theorem State.appendInput_pending (b : Byte) : (s.appendInput b).pending = s.pending := rfl

/-! ### `clearBuffers` -/

@[simp] theorem State.clearBuffers_xacc : (s.clearBuffers).xacc = s.xacc := rfl
@[simp] theorem State.clearBuffers_cacc : (s.clearBuffers).cacc = s.cacc := rfl
@[simp] theorem State.clearBuffers_res : (s.clearBuffers).res = s.res := rfl
@[simp] theorem State.clearBuffers_ibuf : (s.clearBuffers).ibuf = [] := rfl
@[simp] theorem State.clearBuffers_obuf : (s.clearBuffers).obuf = [] := rfl
@[simp] theorem State.clearBuffers_plen : (s.clearBuffers).plen = 0 := rfl
@[simp] theorem State.clearBuffers_rxchk : (s.clearBuffers).rxchk = s.rxchk := rfl
@[simp] theorem State.clearBuffers_split : (s.clearBuffers).split = false := rfl
@[simp] theorem State.clearBuffers_stat : (s.clearBuffers).stat = s.stat := rfl
@[simp] theorem State.clearBuffers_cause : (s.clearBuffers).cause = s.cause := rfl
@[simp] theorem State.clearBuffers_fsticky : (s.clearBuffers).fsticky = s.fsticky := rfl
@[simp] theorem State.clearBuffers_online : (s.clearBuffers).online = s.online := rfl
@[simp] theorem State.clearBuffers_paperEmpty : (s.clearBuffers).paperEmpty = s.paperEmpty := rfl
@[simp] theorem State.clearBuffers_ctrlError : (s.clearBuffers).ctrlError = s.ctrlError := rfl
@[simp] theorem State.clearBuffers_fiscal : (s.clearBuffers).fiscal = s.fiscal := rfl
@[simp] theorem State.clearBuffers_cmdOk : (s.clearBuffers).cmdOk = s.cmdOk := rfl
@[simp] theorem State.clearBuffers_inTrans : (s.clearBuffers).inTrans = s.inTrans := rfl
@[simp] theorem State.clearBuffers_xferOk : (s.clearBuffers).xferOk = s.xferOk := rfl
@[simp] theorem State.clearBuffers_connected : (s.clearBuffers).connected = s.connected := rfl
@[simp] theorem State.clearBuffers_cfg : (s.clearBuffers).cfg = s.cfg := rfl
@[simp] theorem State.clearBuffers_pending : (s.clearBuffers).pending = s.pending := rfl

/-! ### `clearSplit` -/

@[simp] theorem State.clearSplit_xacc : (s.clearSplit).xacc = s.xacc := rfl
@[simp] theorem State.clearSplit_cacc : (s.clearSplit).cacc = s.cacc := rfl
@[simp] theorem State.clearSplit_res : (s.clearSplit).res = s.res := rfl
@[simp] theorem State.clearSplit_ibuf : (s.clearSplit).ibuf = s.ibuf := rfl
@[simp] theorem State.clearSplit_obuf : (s.clearSplit).obuf = s.obuf := rfl
@[simp] theorem State.clearSplit_plen : (s.clearSplit).plen = s.plen := rfl
@[simp] theorem State.clearSplit_rxchk : (s.clearSplit).rxchk = (0x00, 0x00) := rfl
@[simp] theorem State.clearSplit_split : (s.clearSplit).split = false := rfl
@[simp] theorem State.clearSplit_stat : (s.clearSplit).stat = s.stat := rfl
@[simp] theorem State.clearSplit_cause : (s.clearSplit).cause = s.cause := rfl
@[simp] theorem State.clearSplit_fsticky : (s.clearSplit).fsticky = s.fsticky := rfl
@[simp] theorem State.clearSplit_online : (s.clearSplit).online = s.online := rfl
@[simp] theorem State.clearSplit_paperEmpty : (s.clearSplit).paperEmpty = s.paperEmpty := rfl
@[simp] theorem State.clearSplit_ctrlError : (s.clearSplit).ctrlError = s.ctrlError := rfl
@[simp] theorem State.clearSplit_fiscal : (s.clearSplit).fiscal = s.fiscal := rfl
@[simp] theorem State.clearSplit_cmdOk : (s.clearSplit).cmdOk = s.cmdOk := rfl
@[simp] theorem State.clearSplit_inTrans : (s.clearSplit).inTrans = s.inTrans := rfl
@[simp] theorem State.clearSplit_xferOk : (s.clearSplit).xferOk = s.xferOk := rfl
@[simp] theorem State.clearSplit_connected : (s.clearSplit).connected = s.connected := rfl
@[simp] theorem State.clearSplit_cfg : (s.clearSplit).cfg = s.cfg := rfl
@[simp] theorem State.clearSplit_pending : (s.clearSplit).pending = s.pending := rfl

/-! ### `setLinkA` -/

@[simp] theorem State.setLinkA_xacc (on pe ce : Bool) : (s.setLinkA on pe ce).xacc = s.xacc := rfl
@[simp] theorem State.setLinkA_cacc (on pe ce : Bool) : (s.setLinkA on pe ce).cacc = s.cacc := rfl
@[simp] theorem State.setLinkA_res (on pe ce : Bool) : (s.setLinkA on pe ce).res = s.res := rfl
@[simp] theorem State.setLinkA_ibuf (on pe ce : Bool) : (s.setLinkA on pe ce).ibuf = s.ibuf := rfl
@[simp] theorem State.setLinkA_obuf (on pe ce : Bool) : (s.setLinkA on pe ce).obuf = s.obuf := rfl
@[simp] theorem State.setLinkA_plen (on pe ce : Bool) : (s.setLinkA on pe ce).plen = s.plen := rfl
@[simp] theorem State.setLinkA_rxchk (on pe ce : Bool) : (s.setLinkA on pe ce).rxchk = s.rxchk := rfl
@[simp] theorem State.setLinkA_split (on pe ce : Bool) : (s.setLinkA on pe ce).split = s.split := rfl
@[simp] theorem State.setLinkA_stat (on pe ce : Bool) : (s.setLinkA on pe ce).stat = s.stat := rfl
@[simp] theorem State.setLinkA_cause (on pe ce : Bool) : (s.setLinkA on pe ce).cause = s.cause := rfl
@[simp] theorem State.setLinkA_fsticky (on pe ce : Bool) : (s.setLinkA on pe ce).fsticky = s.fsticky := rfl
@[simp] theorem State.setLinkA_online (on pe ce : Bool) : (s.setLinkA on pe ce).online = on := rfl
@[simp] theorem State.setLinkA_paperEmpty (on pe ce : Bool) : (s.setLinkA on pe ce).paperEmpty = pe := rfl
@[simp] theorem State.setLinkA_ctrlError (on pe ce : Bool) : (s.setLinkA on pe ce).ctrlError = ce := rfl
@[simp] theorem State.setLinkA_fiscal (on pe ce : Bool) : (s.setLinkA on pe ce).fiscal = s.fiscal := rfl
@[simp] theorem State.setLinkA_cmdOk (on pe ce : Bool) : (s.setLinkA on pe ce).cmdOk = s.cmdOk := rfl
@[simp] theorem State.setLinkA_inTrans (on pe ce : Bool) : (s.setLinkA on pe ce).inTrans = s.inTrans := rfl
@[simp] theorem State.setLinkA_xferOk (on pe ce : Bool) : (s.setLinkA on pe ce).xferOk = s.xferOk := rfl
@[simp] theorem State.setLinkA_connected (on pe ce : Bool) : (s.setLinkA on pe ce).connected = s.connected := rfl
@[simp] theorem State.setLinkA_cfg (on pe ce : Bool) : (s.setLinkA on pe ce).cfg = s.cfg := rfl
@[simp] theorem State.setLinkA_pending (on pe ce : Bool) : (s.setLinkA on pe ce).pending = s.pending := rfl

/-! ### `setLinkB` -/

@[simp] theorem State.setLinkB_xacc (fi co it xo : Bool) : (s.setLinkB fi co it xo).xacc = s.xacc := rfl
@[simp] theorem State.setLinkB_cacc (fi co it xo : Bool) : (s.setLinkB fi co it xo).cacc = s.cacc := rfl
@[simp] theorem State.setLinkB_res (fi co it xo : Bool) : (s.setLinkB fi co it xo).res = s.res := rfl
@[simp] theorem State.setLinkB_ibuf (fi co it xo : Bool) : (s.setLinkB fi co it xo).ibuf = s.ibuf := rfl
@[simp] theorem State.setLinkB_obuf (fi co it xo : Bool) : (s.setLinkB fi co it xo).obuf = s.obuf := rfl
@[simp] theorem State.setLinkB_plen (fi co it xo : Bool) : (s.setLinkB fi co it xo).plen = s.plen := rfl
@[simp] theorem State.setLinkB_rxchk (fi co it xo : Bool) : (s.setLinkB fi co it xo).rxchk = s.rxchk := rfl
@[simp] theorem State.setLinkB_split (fi co it xo : Bool) : (s.setLinkB fi co it xo).split = s.split := rfl
@[simp] theorem State.setLinkB_stat (fi co it xo : Bool) : (s.setLinkB fi co it xo).stat = s.stat := rfl
@[simp] theorem State.setLinkB_cause (fi co it xo : Bool) : (s.setLinkB fi co it xo).cause = s.cause := rfl
@[simp] theorem State.setLinkB_fsticky (fi co it xo : Bool) : (s.setLinkB fi co it xo).fsticky = s.fsticky := rfl
@[simp] theorem State.setLinkB_online (fi co it xo : Bool) : (s.setLinkB fi co it xo).online = s.online := rfl
@[simp] theorem State.setLinkB_paperEmpty (fi co it xo : Bool) : (s.setLinkB fi co it xo).paperEmpty = s.paperEmpty := rfl
@[simp] theorem State.setLinkB_ctrlError (fi co it xo : Bool) : (s.setLinkB fi co it xo).ctrlError = s.ctrlError := rfl
@[simp] theorem State.setLinkB_fiscal (fi co it xo : Bool) : (s.setLinkB fi co it xo).fiscal = fi := rfl
@[simp] theorem State.setLinkB_cmdOk (fi co it xo : Bool) : (s.setLinkB fi co it xo).cmdOk = co := rfl
@[simp] theorem State.setLinkB_inTrans (fi co it xo : Bool) : (s.setLinkB fi co it xo).inTrans = it := rfl
@[simp] theorem State.setLinkB_xferOk (fi co it xo : Bool) : (s.setLinkB fi co it xo).xferOk = xo := rfl
@[simp] theorem State.setLinkB_connected (fi co it xo : Bool) : (s.setLinkB fi co it xo).connected = s.connected := rfl
@[simp] theorem State.setLinkB_cfg (fi co it xo : Bool) : (s.setLinkB fi co it xo).cfg = s.cfg := rfl
@[simp] theorem State.setLinkB_pending (fi co it xo : Bool) : (s.setLinkB fi co it xo).pending = s.pending := rfl

/-! ### `setConnected` -/

@[simp] theorem State.setConnected_xacc (b : Bool) : (s.setConnected b).xacc = s.xacc := rfl
@[simp] theorem State.setConnected_cacc (b : Bool) : (s.setConnected b).cacc = s.cacc := rfl
@[simp] theorem State.setConnected_res (b : Bool) : (s.setConnected b).res = s.res := rfl
@[simp] theorem State.setConnected_ibuf (b : Bool) : (s.setConnected b).ibuf = s.ibuf := rfl
@[simp] theorem State.setConnected_obuf (b : Bool) : (s.setConnected b).obuf = s.obuf := rfl
@[simp] theorem State.setConnected_plen (b : Bool) : (s.setConnected b).plen = s.plen := rfl
@[simp] theorem State.setConnected_rxchk (b : Bool) : (s.setConnected b).rxchk = s.rxchk := rfl
@[simp] theorem State.setConnected_split (b : Bool) : (s.setConnected b).split = s.split := rfl
@[simp] theorem State.setConnected_stat (b : Bool) : (s.setConnected b).stat = s.stat := rfl
@[simp] theorem State.setConnected_cause (b : Bool) : (s.setConnected b).cause = s.cause := rfl
@[simp] theorem State.setConnected_fsticky (b : Bool) : (s.setConnected b).fsticky = s.fsticky := rfl
@[simp] theorem State.setConnected_online (b : Bool) : (s.setConnected b).online = s.online := rfl
@[simp] theorem State.setConnected_paperEmpty (b : Bool) : (s.setConnected b).paperEmpty = s.paperEmpty := rfl
@[simp] theorem State.setConnected_ctrlError (b : Bool) : (s.setConnected b).ctrlError = s.ctrlError := rfl
@[simp] theorem State.setConnected_fiscal (b : Bool) : (s.setConnected b).fiscal = s.fiscal := rfl
@[simp] theorem State.setConnected_cmdOk (b : Bool) : (s.setConnected b).cmdOk = s.cmdOk := rfl
@[simp] theorem State.setConnected_inTrans (b : Bool) : (s.setConnected b).inTrans = s.inTrans := rfl
@[simp] theorem State.setConnected_xferOk (b : Bool) : (s.setConnected b).xferOk = s.xferOk := rfl
@[simp] theorem State.setConnected_connected (b : Bool) : (s.setConnected b).connected = b := rfl
@[simp] theorem State.setConnected_cfg (b : Bool) : (s.setConnected b).cfg = s.cfg := rfl
@[simp] theorem State.setConnected_pending (b : Bool) : (s.setConnected b).pending = s.pending := rfl

/-! ### `complete` -/

@[simp] theorem State.complete_xacc : (s.complete).xacc = s.xacc := rfl
@[simp] theorem State.complete_cacc : (s.complete).cacc = s.cacc := rfl
@[simp] theorem State.complete_res : (s.complete).res = s.res := rfl
@[simp] theorem State.complete_ibuf : (s.complete).ibuf = s.ibuf := rfl
@[simp] theorem State.complete_obuf : (s.complete).obuf = s.obuf := rfl
@[simp] theorem State.complete_plen : (s.complete).plen = s.plen := rfl
@[simp] theorem State.complete_rxchk : (s.complete).rxchk = s.rxchk := rfl
@[simp] theorem State.complete_split : (s.complete).split = s.split := rfl
@[simp] theorem State.complete_stat : (s.complete).stat = .ok := rfl
@[simp] theorem State.complete_cause : (s.complete).cause = .none := rfl
@[simp] theorem State.complete_fsticky : (s.complete).fsticky = s.fsticky := rfl
@[simp] theorem State.complete_online : (s.complete).online = s.online := rfl
@[simp] theorem State.complete_paperEmpty : (s.complete).paperEmpty = s.paperEmpty := rfl
@[simp] theorem State.complete_ctrlError : (s.complete).ctrlError = s.ctrlError := rfl
@[simp] theorem State.complete_fiscal : (s.complete).fiscal = s.fiscal := rfl
@[simp] theorem State.complete_cmdOk : (s.complete).cmdOk = s.cmdOk := rfl
@[simp] theorem State.complete_inTrans : (s.complete).inTrans = s.inTrans := rfl
@[simp] theorem State.complete_xferOk : (s.complete).xferOk = s.xferOk := rfl
@[simp] theorem State.complete_connected : (s.complete).connected = s.connected := rfl
@[simp] theorem State.complete_cfg : (s.complete).cfg = s.cfg := rfl
@[simp] theorem State.complete_pending : (s.complete).pending = s.pending := rfl

/-! ### `raise` -/

@[simp] theorem State.raise_xacc (c : Cause) : (s.raise c).xacc = s.xacc := rfl
@[simp] theorem State.raise_cacc (c : Cause) : (s.raise c).cacc = s.cacc := rfl
@[simp] theorem State.raise_res (c : Cause) : (s.raise c).res = s.res := rfl
@[simp] theorem State.raise_ibuf (c : Cause) : (s.raise c).ibuf = s.ibuf := rfl
@[simp] theorem State.raise_obuf (c : Cause) : (s.raise c).obuf = [] := rfl
@[simp] theorem State.raise_plen (c : Cause) : (s.raise c).plen = 0 := rfl
@[simp] theorem State.raise_rxchk (c : Cause) : (s.raise c).rxchk = s.rxchk := rfl
@[simp] theorem State.raise_split (c : Cause) : (s.raise c).split = s.split := rfl
@[simp] theorem State.raise_stat (c : Cause) : (s.raise c).stat = .fault := rfl
@[simp] theorem State.raise_cause (c : Cause) : (s.raise c).cause = c := rfl
@[simp] theorem State.raise_fsticky (c : Cause) : (s.raise c).fsticky = true := rfl
@[simp] theorem State.raise_online (c : Cause) : (s.raise c).online = s.online := rfl
@[simp] theorem State.raise_paperEmpty (c : Cause) : (s.raise c).paperEmpty = s.paperEmpty := rfl
@[simp] theorem State.raise_ctrlError (c : Cause) : (s.raise c).ctrlError = s.ctrlError := rfl
@[simp] theorem State.raise_fiscal (c : Cause) : (s.raise c).fiscal = s.fiscal := rfl
@[simp] theorem State.raise_cmdOk (c : Cause) : (s.raise c).cmdOk = s.cmdOk := rfl
@[simp] theorem State.raise_inTrans (c : Cause) : (s.raise c).inTrans = s.inTrans := rfl
@[simp] theorem State.raise_xferOk (c : Cause) : (s.raise c).xferOk = s.xferOk := rfl
@[simp] theorem State.raise_connected (c : Cause) : (s.raise c).connected = s.connected := rfl
@[simp] theorem State.raise_cfg (c : Cause) : (s.raise c).cfg = s.cfg := rfl
@[simp] theorem State.raise_pending (c : Cause) : (s.raise c).pending = s.pending := rfl

/-! ### `hold` -/

@[simp] theorem State.hold_xacc : (s.hold).xacc = s.xacc := rfl
@[simp] theorem State.hold_cacc : (s.hold).cacc = s.cacc := rfl
@[simp] theorem State.hold_res : (s.hold).res = s.res := rfl
@[simp] theorem State.hold_ibuf : (s.hold).ibuf = s.ibuf := rfl
@[simp] theorem State.hold_obuf : (s.hold).obuf = [] := rfl
@[simp] theorem State.hold_plen : (s.hold).plen = 0 := rfl
@[simp] theorem State.hold_rxchk : (s.hold).rxchk = s.rxchk := rfl
@[simp] theorem State.hold_split : (s.hold).split = s.split := rfl
@[simp] theorem State.hold_stat : (s.hold).stat = .pending := rfl
@[simp] theorem State.hold_cause : (s.hold).cause = .none := rfl
@[simp] theorem State.hold_fsticky : (s.hold).fsticky = s.fsticky := rfl
@[simp] theorem State.hold_online : (s.hold).online = s.online := rfl
@[simp] theorem State.hold_paperEmpty : (s.hold).paperEmpty = s.paperEmpty := rfl
@[simp] theorem State.hold_ctrlError : (s.hold).ctrlError = s.ctrlError := rfl
@[simp] theorem State.hold_fiscal : (s.hold).fiscal = s.fiscal := rfl
@[simp] theorem State.hold_cmdOk : (s.hold).cmdOk = s.cmdOk := rfl
@[simp] theorem State.hold_inTrans : (s.hold).inTrans = s.inTrans := rfl
@[simp] theorem State.hold_xferOk : (s.hold).xferOk = s.xferOk := rfl
@[simp] theorem State.hold_connected : (s.hold).connected = s.connected := rfl
@[simp] theorem State.hold_cfg : (s.hold).cfg = s.cfg := rfl
@[simp] theorem State.hold_pending : (s.hold).pending = s.pending := rfl

/-! ### `toReset` -/

@[simp] theorem State.toReset_xacc : (s.toReset).xacc = 0xFF := rfl
@[simp] theorem State.toReset_cacc : (s.toReset).cacc = 0x0000 := rfl
@[simp] theorem State.toReset_res : (s.toReset).res = false := rfl
@[simp] theorem State.toReset_ibuf : (s.toReset).ibuf = [] := rfl
@[simp] theorem State.toReset_obuf : (s.toReset).obuf = [] := rfl
@[simp] theorem State.toReset_plen : (s.toReset).plen = 0 := rfl
@[simp] theorem State.toReset_rxchk : (s.toReset).rxchk = (0x00, 0x00) := rfl
@[simp] theorem State.toReset_split : (s.toReset).split = false := rfl
@[simp] theorem State.toReset_stat : (s.toReset).stat = .ok := rfl
@[simp] theorem State.toReset_cause : (s.toReset).cause = .none := rfl
@[simp] theorem State.toReset_fsticky : (s.toReset).fsticky = false := rfl
@[simp] theorem State.toReset_online : (s.toReset).online = false := rfl
@[simp] theorem State.toReset_paperEmpty : (s.toReset).paperEmpty = false := rfl
@[simp] theorem State.toReset_ctrlError : (s.toReset).ctrlError = false := rfl
@[simp] theorem State.toReset_fiscal : (s.toReset).fiscal = false := rfl
@[simp] theorem State.toReset_cmdOk : (s.toReset).cmdOk = false := rfl
@[simp] theorem State.toReset_inTrans : (s.toReset).inTrans = false := rfl
@[simp] theorem State.toReset_xferOk : (s.toReset).xferOk = false := rfl
@[simp] theorem State.toReset_connected : (s.toReset).connected = false := rfl
@[simp] theorem State.toReset_cfg : (s.toReset).cfg = s.cfg := rfl
@[simp] theorem State.toReset_pending : (s.toReset).pending = s.pending := rfl

/-! ### `present` -/

@[simp] theorem State.present_xacc (h : HostInput) : (s.present h).xacc = s.xacc := rfl
@[simp] theorem State.present_cacc (h : HostInput) : (s.present h).cacc = s.cacc := rfl
@[simp] theorem State.present_res (h : HostInput) : (s.present h).res = s.res := rfl
@[simp] theorem State.present_ibuf (h : HostInput) : (s.present h).ibuf = s.ibuf := rfl
@[simp] theorem State.present_obuf (h : HostInput) : (s.present h).obuf = s.obuf := rfl
@[simp] theorem State.present_plen (h : HostInput) : (s.present h).plen = s.plen := rfl
@[simp] theorem State.present_rxchk (h : HostInput) : (s.present h).rxchk = s.rxchk := rfl
@[simp] theorem State.present_split (h : HostInput) : (s.present h).split = s.split := rfl
@[simp] theorem State.present_stat (h : HostInput) : (s.present h).stat = s.stat := rfl
@[simp] theorem State.present_cause (h : HostInput) : (s.present h).cause = s.cause := rfl
@[simp] theorem State.present_fsticky (h : HostInput) : (s.present h).fsticky = s.fsticky := rfl
@[simp] theorem State.present_online (h : HostInput) : (s.present h).online = s.online := rfl
@[simp] theorem State.present_paperEmpty (h : HostInput) : (s.present h).paperEmpty = s.paperEmpty := rfl
@[simp] theorem State.present_ctrlError (h : HostInput) : (s.present h).ctrlError = s.ctrlError := rfl
@[simp] theorem State.present_fiscal (h : HostInput) : (s.present h).fiscal = s.fiscal := rfl
@[simp] theorem State.present_cmdOk (h : HostInput) : (s.present h).cmdOk = s.cmdOk := rfl
@[simp] theorem State.present_inTrans (h : HostInput) : (s.present h).inTrans = s.inTrans := rfl
@[simp] theorem State.present_xferOk (h : HostInput) : (s.present h).xferOk = s.xferOk := rfl
@[simp] theorem State.present_connected (h : HostInput) : (s.present h).connected = s.connected := rfl
@[simp] theorem State.present_cfg (h : HostInput) : (s.present h).cfg = s.cfg := rfl
@[simp] theorem State.present_pending (h : HostInput) : (s.present h).pending = h :: s.pending := rfl

/-! ### `deliverInner` -/

@[simp] theorem State.deliverInner_xacc (x : List Byte) : (s.deliverInner x).xacc = s.xacc := by
  unfold State.deliverInner; split <;> rfl
@[simp] theorem State.deliverInner_cacc (x : List Byte) : (s.deliverInner x).cacc = s.cacc := by
  unfold State.deliverInner; split <;> rfl
@[simp] theorem State.deliverInner_res (x : List Byte) : (s.deliverInner x).res = s.res := by
  unfold State.deliverInner; split <;> rfl
@[simp] theorem State.deliverInner_ibuf (x : List Byte) : (s.deliverInner x).ibuf = s.ibuf := by
  unfold State.deliverInner; split <;> rfl
@[simp] theorem State.deliverInner_stat (x : List Byte) : (s.deliverInner x).stat = s.stat := by
  unfold State.deliverInner; split <;> rfl
@[simp] theorem State.deliverInner_cause (x : List Byte) : (s.deliverInner x).cause = s.cause := by
  unfold State.deliverInner; split <;> rfl
@[simp] theorem State.deliverInner_fsticky (x : List Byte) : (s.deliverInner x).fsticky = s.fsticky := by
  unfold State.deliverInner; split <;> rfl
@[simp] theorem State.deliverInner_online (x : List Byte) : (s.deliverInner x).online = s.online := by
  unfold State.deliverInner; split <;> rfl
@[simp] theorem State.deliverInner_paperEmpty (x : List Byte) : (s.deliverInner x).paperEmpty = s.paperEmpty := by
  unfold State.deliverInner; split <;> rfl
@[simp] theorem State.deliverInner_ctrlError (x : List Byte) : (s.deliverInner x).ctrlError = s.ctrlError := by
  unfold State.deliverInner; split <;> rfl
@[simp] theorem State.deliverInner_fiscal (x : List Byte) : (s.deliverInner x).fiscal = s.fiscal := by
  unfold State.deliverInner; split <;> rfl
@[simp] theorem State.deliverInner_cmdOk (x : List Byte) : (s.deliverInner x).cmdOk = s.cmdOk := by
  unfold State.deliverInner; split <;> rfl
@[simp] theorem State.deliverInner_inTrans (x : List Byte) : (s.deliverInner x).inTrans = s.inTrans := by
  unfold State.deliverInner; split <;> rfl
@[simp] theorem State.deliverInner_xferOk (x : List Byte) : (s.deliverInner x).xferOk = s.xferOk := by
  unfold State.deliverInner; split <;> rfl
@[simp] theorem State.deliverInner_connected (x : List Byte) : (s.deliverInner x).connected = s.connected := by
  unfold State.deliverInner; split <;> rfl
@[simp] theorem State.deliverInner_cfg (x : List Byte) : (s.deliverInner x).cfg = s.cfg := by
  unfold State.deliverInner; split <;> rfl
@[simp] theorem State.deliverInner_pending (x : List Byte) : (s.deliverInner x).pending = s.pending := by
  unfold State.deliverInner; split <;> rfl
@[simp] theorem State.deliverInner_obuf (x : List Byte) : (s.deliverInner x).obuf = x := by
  unfold State.deliverInner; split <;> rfl

end Sys2Proof.Machine
end

