-- ==== Sys2Proof/Laws/Memory.lean ====
section
/-! SUPPORT. The canonical form of the buffers: every operation over them keeps `Memory.wf`, and reset has it. -/

namespace Sys2Proof.Machine

open Sys2Proof

/-- The canonical form, spelled out: both buffers are within their capacities. -/
theorem memory_wf_iff (s : State) :
    Memory.wf s = true ↔ ∀ n ∈ s.cfg.bufCap, s.ibuf.length ≤ n ∧ s.obuf.length ≤ n + 7 := by
  unfold Memory.wf
  cases s.cfg.bufCap <;> simp

/-- An operation that keeps the configuration and shortens or keeps both buffers keeps the form. -/
theorem memory_wf_of_le {s t : State} (hc : t.cfg = s.cfg) (hi : t.ibuf.length ≤ s.ibuf.length)
    (ho : t.obuf.length ≤ s.obuf.length) (h : Memory.wf s = true) : Memory.wf t = true := by
  rw [memory_wf_iff] at h ⊢
  intro n hn
  have := h n (hc ▸ hn)
  omega

/-- Delivering at most 7 bytes more than the input holds keeps the form (R16: no operation can overflow `OBUF`). -/
theorem memory_wf_deliver {s : State} {out : List Byte} (ho : out.length ≤ s.ibuf.length + 7)
    (h : Memory.wf s = true) : Memory.wf (s.deliver out) = true := by
  rw [memory_wf_iff] at h ⊢
  intro n hn
  have := h n (by simpa using hn)
  simp
  omega

theorem memory_wf_deliverInner {s : State} {x : List Byte} (ho : x.length ≤ s.ibuf.length)
    (h : Memory.wf s = true) : Memory.wf (s.deliverInner x) = true := by
  rw [memory_wf_iff] at h ⊢
  intro n hn
  have := h n (by simpa using hn)
  simp
  omega

/-- Appending to an input buffer that is not full keeps the form. -/
theorem memory_wf_appendInput {s : State} {b : Byte} (hf : s.inputFull = false) (h : Memory.wf s = true) :
    Memory.wf (s.appendInput b) = true := by
  rw [memory_wf_iff] at h ⊢
  intro n hn
  have h2 := h n (by simpa using hn)
  have hc : s.cfg.bufCap = some n := by simpa using hn
  simp [State.inputFull, hc] at hf
  simp
  omega

theorem memory_wf_clearBuffers {s : State} (h : Memory.wf s = true) : Memory.wf s.clearBuffers = true :=
  memory_wf_of_le (s := s) rfl (by simp) (by simp) h

theorem memory_wf_raise {s : State} (c : Cause) (h : Memory.wf s = true) : Memory.wf (s.raise c) = true :=
  memory_wf_of_le (s := s) rfl (by simp) (by simp) h

theorem memory_wf_hold {s : State} (h : Memory.wf s = true) : Memory.wf s.hold = true :=
  memory_wf_of_le (s := s) rfl (by simp) (by simp) h

theorem memory_wf_toReset {s : State} (h : Memory.wf s = true) : Memory.wf s.toReset = true :=
  memory_wf_of_le (s := s) rfl (by simp) (by simp) h

theorem memory_wf_reset : Memory.wf State.reset = true := rfl

end Sys2Proof.Machine
end

