-- ==== Sys2Proof/Laws/Ops.lean ====
section
/-! SUPPORT. What each shared operation can do, each said once: the split of the inner bytes, the full input buffer, and the
taking of one input. -/

namespace Sys2Proof.Machine

open Sys2Proof

/-- Delivering at least two inner bytes splits off the last two (R112). -/
theorem State.deliverInner_append (s : State) (x : List Byte) (c1 c2 : Byte) :
    s.deliverInner (x ++ [c1, c2]) =
      { s with obuf := x ++ [c1, c2], plen := x.length, rxchk := (c1, c2), split := true } := by
  simp [State.deliverInner, lastTwo_append]

/-- Delivering fewer than two inner bytes splits off nothing (R112). -/
theorem State.deliverInner_short (s : State) {x : List Byte} (h : x.length < 2) :
    s.deliverInner x = { s with obuf := x, plen := 0, rxchk := (0x00, 0x00), split := false } := by
  simp [State.deliverInner, lastTwo_short h]

/-- The payload is never longer than the inner bytes. -/
theorem State.deliverInner_plen_le (s : State) (x : List Byte) : (s.deliverInner x).plen ≤ x.length := by
  unfold State.deliverInner
  split <;> simp

theorem State.inputFull_iff (s : State) : s.inputFull = true ↔ s.cfg.bufCap = some s.ibuf.length := by
  unfold State.inputFull
  generalize s.cfg.bufCap = c
  cases c with
  | none => simp
  | some n => simpa using eq_comm

/-- The reset state is the same whatever state is reset, but for the configuration and the host's waiting inputs. -/
theorem State.toReset_toReset (s : State) : s.toReset.toReset = s.toReset := rfl

/-- What accepting one input can be. -/
theorem accept_cases (h : HostInput) (s : State) :
    (h = .hardwareReset ∧ accept h s = .next s.toReset) ∨
    (∃ r i, h = .instr r ∧ decode r = .ok i ∧ accept h s = exec i s) ∨
    (∃ r op, h = .instr r ∧ decode r = .error (.reservedCode op) ∧ accept h s = .next (s.raise .illegalOp)) ∨
    (∃ r b, h = .instr r ∧ decode r = .error (.notAControlByte b) ∧ accept h s = .fault (.notAControlByte b)) := by
  cases h with
  | hardwareReset => exact .inl ⟨rfl, rfl⟩
  | instr r =>
    rcases hd : decode r with e | i
    · rcases e with op | b
      · exact .inr (.inr (.inl ⟨r, op, rfl, hd, by simp [accept, hd]⟩))
      · exact .inr (.inr (.inr ⟨r, b, rfl, hd, by simp [accept, hd]⟩))
    · exact .inr (.inl ⟨r, i, rfl, hd, by simp [accept, hd]⟩)

/-- With no input waiting nothing happens. -/
theorem advance_nil {s : State} (h : s.pending = []) : advance s = .next s := by simp [advance, h]

/-- The oldest input acts on the state from which it has been taken. -/
theorem advance_cons {s : State} {h : HostInput} {rest : List HostInput} (hp : s.pending = h :: rest) :
    advance s = accept h { s with pending := rest } := by simp [advance, hp]

end Sys2Proof.Machine
end

