-- ==== Sys2Proof/Laws/PerInstr.lean ====
section
/-! SUPPORT. A statement about every instruction as syntax, one lemma per constructor: its encoding lies in its row of
`spec/opcode_table.json`. -/

namespace Sys2Proof.Laws.InItsRow

open Sys2Proof

/-- The raw instruction meets a row of format `OPW` with the given match: `OPW and 0x1F00 = match`. -/
def opwRow (m : OpWord) : RawInstr → Bool
  | .opw w => w &&& 0x1F00 == m
  | .wire _ => false

/-- As `opwRow`, with the immediate in bits 7 to 0. -/
def opwRowDin (m : OpWord) (din : Byte) : RawInstr → Bool
  | .opw w => w &&& 0x1F00 == m && w &&& 0x00FF == din.setWidth 13
  | .wire _ => false

/-- The raw instruction meets a row of format `WIRE8`: the whole byte is fixed. -/
def wireRow (m : Byte) : RawInstr → Bool
  | .opw _ => false
  | .wire b => b == m

/-- The encoding of the instruction meets the match and mask of its row, and an immediate stands in bits 7 to 0. -/
def Statement : Instr → Prop
  | .x8Init => opwRow 0x0000 (encode .x8Init) = true
  | .x8Upd din => opwRowDin 0x0100 din (encode (.x8Upd din)) = true
  | .x8Hex => opwRow 0x0200 (encode .x8Hex) = true
  | .x8Sum => opwRow 0x0300 (encode .x8Sum) = true
  | .x8Vfy => opwRow 0x0400 (encode .x8Vfy) = true
  | .c16Init => opwRow 0x0800 (encode .c16Init) = true
  | .c16Upd din => opwRowDin 0x0900 din (encode (.c16Upd din)) = true
  | .c16Hex => opwRow 0x0A00 (encode .c16Hex) = true
  | .c16Sum => opwRow 0x0B00 (encode .c16Sum) = true
  | .c16Vfy => opwRow 0x0C00 (encode .c16Vfy) = true
  | .faEnc => opwRow 0x1000 (encode .faEnc) = true
  | .faDec => opwRow 0x1100 (encode .faDec) = true
  | .fbEnc => opwRow 0x1200 (encode .fbEnc) = true
  | .fbDec => opwRow 0x1300 (encode .fbDec) = true
  | .stDecA din => opwRowDin 0x1800 din (encode (.stDecA din)) = true
  | .stDecB din => opwRowDin 0x1900 din (encode (.stDecB din)) = true
  | .stNoReply => opwRow 0x1A00 (encode .stNoReply) = true
  | .bufPut din => opwRowDin 0x1B00 din (encode (.bufPut din)) = true
  | .bufClr => opwRow 0x1C00 (encode .bufClr) = true
  | .sysReset => opwRow 0x1D00 (encode .sysReset) = true
  | .wireProbeA => wireRow 0x10 (encode .wireProbeA) = true
  | .wireProbeB => wireRow 0x05 (encode .wireProbeB) = true
  | .wireCancel => wireRow 0x18 (encode .wireCancel) = true

/-- Every assembled operation word holds its code and its immediate. -/
theorem opwRowDin_opWord (op : BitVec 5) (din : Byte) :
    opwRowDin (opWord op 0) din (.opw (opWord op din)) = true := by
  revert op din; decide

theorem x8Init : Statement .x8Init := rfl
theorem x8Upd (din : Byte) : Statement (.x8Upd din) := opwRowDin_opWord 0x01 din
theorem x8Hex : Statement .x8Hex := rfl
theorem x8Sum : Statement .x8Sum := rfl
theorem x8Vfy : Statement .x8Vfy := rfl
theorem c16Init : Statement .c16Init := rfl
theorem c16Upd (din : Byte) : Statement (.c16Upd din) := opwRowDin_opWord 0x09 din
theorem c16Hex : Statement .c16Hex := rfl
theorem c16Sum : Statement .c16Sum := rfl
theorem c16Vfy : Statement .c16Vfy := rfl
theorem faEnc : Statement .faEnc := rfl
theorem faDec : Statement .faDec := rfl
theorem fbEnc : Statement .fbEnc := rfl
theorem fbDec : Statement .fbDec := rfl
theorem stDecA (din : Byte) : Statement (.stDecA din) := opwRowDin_opWord 0x18 din
theorem stDecB (din : Byte) : Statement (.stDecB din) := opwRowDin_opWord 0x19 din
theorem stNoReply : Statement .stNoReply := rfl
theorem bufPut (din : Byte) : Statement (.bufPut din) := opwRowDin_opWord 0x1B din
theorem bufClr : Statement .bufClr := rfl
theorem sysReset : Statement .sysReset := rfl
theorem wireProbeA : Statement .wireProbeA := rfl
theorem wireProbeB : Statement .wireProbeB := rfl
theorem wireCancel : Statement .wireCancel := rfl

end Sys2Proof.Laws.InItsRow
end

