-- ==== Sys2Proof/Laws/Scan.lean ====
section
/-! SUPPORT. What the scans of received frames find, over all inputs: a marker pair of family A and the fields of a family B
frame. -/

namespace Sys2Proof.Machine

open Sys2Proof

/-- A pair stands at an index exactly when it is a prefix of the rest from there. -/
theorem pairAt_iff {p q : Byte} {x : List Byte} {k : Nat} : pairAt p q x k ↔ [p, q] <+: x.drop k := by
  unfold pairAt
  constructor
  · rintro ⟨h1, h2⟩
    obtain ⟨hk, h1⟩ := List.getElem?_eq_some_iff.mp h1
    obtain ⟨hk2, h2⟩ := List.getElem?_eq_some_iff.mp h2
    exact ⟨x.drop (k+2), by rw [List.drop_eq_getElem_cons hk, List.drop_eq_getElem_cons hk2, h1, h2]; rfl⟩
  · rintro ⟨t, h⟩
    have h1 := congrArg (·[0]?) h
    have h2 := congrArg (·[1]?) h
    simp at h1 h2
    exact ⟨h1.symm, h2.symm⟩

/-- A pair lies inside the sequence. -/
theorem pairAt_lt {p q : Byte} {x : List Byte} {k : Nat} (h : pairAt p q x k) : k + 1 < x.length := by
  have := List.getElem?_eq_some_iff.mp h.2
  exact this.1

/-- `find` answers nothing when the pair stands nowhere. -/
theorem find_pair_none {p q : Byte} {x : List Byte} (h : pairFree p q x) : find [p, q] x = none := by
  rw [find_eq_none (by simp)]
  intro i hi
  have := pairAt_iff.mpr hi
  exact h i (by have := pairAt_lt this; omega) this

/-- `find` answers the first index at which the pair stands. -/
theorem find_pair_first {p q : Byte} {x : List Byte} {k} (h : pairAt p q x k) (hm : ∀ j < k, ¬ pairAt p q x j) : find [p, q] x = some k := by
  rw [find_eq_some (by simp)]
  exact ⟨pairAt_iff.mp h, fun i hi => by rw [← pairAt_iff]; exact hm i hi⟩

/-- The scan of a buffer whose first `03` has no `02` before it. -/
theorem scanB_no_stx {pre post : List Byte} (h3 : (0x03 : Byte) ∉ pre) (h2 : (0x02 : Byte) ∉ pre) :
    scanB (pre ++ [0x03] ++ post) = .malformed := by
  have : find [etxB] (pre ++ [0x03] ++ post) = some pre.length := by
    have := find_singleton_append (b := etxB) (post := post) h3
    simpa [etxB] using this
  simp only [scanB, this]
  have ht : (pre ++ [0x03] ++ post).take pre.length = pre := by simp
  rw [ht, find_singleton_none (b := stxB) h2]

/-- The scan between the first `02` and the first `03`: the separator stands five bytes before the `03`, or the frame is malformed
(R122, R65). -/
theorem scanB_between {pre mid post : List Byte} (h3 : (0x03 : Byte) ∉ pre) (h2 : (0x02 : Byte) ∉ pre) (hm : (0x03 : Byte) ∉ mid) :
    scanB (pre ++ [0x02] ++ mid ++ [0x03] ++ post) = if mid.length < 5 ∨ mid[mid.length - 5]? ≠ some 0x23 then .malformed else
      .fields (mid.take (mid.length - 5)) (mid.drop (mid.length - 4)) := by
  have he : find [etxB] (pre ++ [0x02] ++ mid ++ [0x03] ++ post) = some (pre.length + 1 + mid.length) := by
    have := find_singleton_append (b := etxB) (pre := pre ++ [0x02] ++ mid) (post := post) (by simp [etxB]; exact ⟨h3, hm⟩)
    simpa [etxB, Nat.add_assoc, Nat.add_comm, Nat.add_left_comm] using this
  have hs : find [stxB] ((pre ++ [0x02] ++ mid ++ [0x03] ++ post).take (pre.length + 1 + mid.length)) = some pre.length := by
    have := find_singleton_append (b := stxB) (pre := pre) (post := mid) h2
    have ht : (pre ++ [0x02] ++ mid ++ [0x03] ++ post).take (pre.length + 1 + mid.length) = pre ++ 0x02 :: mid := by
      have : pre ++ [0x02] ++ mid ++ [0x03] ++ post = (pre ++ 0x02 :: mid) ++ (0x03 :: post) := by simp
      rw [this]; apply List.take_left'; simp; omega
    rw [ht]; exact this
  simp only [scanB, he, hs]
  by_cases hl : mid.length < 5
  · rw [if_pos (by omega), if_pos (.inl hl)]
  · rw [if_neg (by omega)]
    have hsep : (pre ++ [0x02] ++ mid ++ [0x03] ++ post)[pre.length + 1 + mid.length - 5]? = mid[mid.length - 5]? := by
      have : pre ++ [0x02] ++ mid ++ [0x03] ++ post = (pre ++ [0x02]) ++ (mid ++ (0x03 :: post)) := by simp
      rw [this, List.getElem?_append_right (by simp; omega), List.getElem?_append_left (by simp; omega)]
      congr 1
      simp; omega
    rw [hsep]
    by_cases hq : mid[mid.length - 5]? = some 0x23
    · rw [if_neg (by simpa [sepB] using hq), if_neg (by simp [hq]; omega)]
      congr 1
      · unfold slice
        have : pre ++ [0x02] ++ mid ++ [0x03] ++ post = (pre ++ [0x02]) ++ (mid ++ (0x03 :: post)) := by simp
        rw [this, show pre.length + 1 + mid.length - 5 = (pre ++ [(0x02 : Byte)]).length + (mid.length - 5) by simp; omega,
          List.take_length_add_append]
        rw [show pre.length + 1 = (pre ++ [(0x02 : Byte)]).length by simp, List.drop_left]
        rw [List.take_append_of_le_length (by omega)]
      · unfold slice
        have : pre ++ [0x02] ++ mid ++ [0x03] ++ post = (pre ++ [0x02] ++ mid) ++ (0x03 :: post) := by simp
        rw [this, List.take_left' (by simp; omega), show pre.length + 1 + mid.length - 4 = (pre ++ [(0x02 : Byte)]).length + (mid.length - 4) by simp; omega]
        rw [List.drop_length_add_append]
    · rw [if_pos (by simpa [sepB] using hq), if_pos (.inr hq)]

/-- The scan of a well-formed frame delivers its command-string and its four CRC characters. -/
theorem scanB_frame {pre cmd tail post : List Byte} (ht : tail.length = 4) (h3 : (0x03 : Byte) ∉ pre) (h2 : (0x02 : Byte) ∉ pre) (hc : (0x03 : Byte) ∉ cmd) (htl : (0x03 : Byte) ∉ tail) :
    scanB (pre ++ [0x02] ++ cmd ++ [0x23] ++ tail ++ [0x03] ++ post) = .fields cmd tail := by
  have := scanB_between (pre := pre) (mid := cmd ++ [0x23] ++ tail) (post := post) h3 h2 (by simp; exact ⟨hc, htl⟩)
  rw [show pre ++ [0x02] ++ cmd ++ [0x23] ++ tail ++ [0x03] ++ post = pre ++ [0x02] ++ (cmd ++ [0x23] ++ tail) ++ [0x03] ++ post by simp, this]
  have hl : (cmd ++ [0x23] ++ tail).length = cmd.length + 5 := by simp [ht]
  rw [hl, if_neg]
  · congr 1
    · simp
    · rw [show cmd.length + 5 - 4 = (cmd ++ [(0x23 : Byte)]).length by simp]; exact List.drop_left
  · simp

end Sys2Proof.Machine
end

