-- ==== Sys2Proof/Laws/Shorthand.lean ====
section
/-! SUPPORT. How sequences of operations compose (R50). -/

namespace Sys2Proof.Machine

open Sys2Proof

/-- A sequence of operations runs as its two parts, one after the other. -/
theorem execAll_append (a b : List Instr) (s t : State) (h : execAll a s = .next t) : execAll (a ++ b) s = execAll b t := by
  induction a generalizing s with
  | nil => cases h; rfl
  | cons i rest ih =>
    simp only [execAll, List.cons_append] at h ⊢
    split at h
    · exact ih _ h
    · cases h
    · cases h

/-- One more operation at the end. -/
theorem execAll_snoc (a : List Instr) (i : Instr) (s t u : State) (h : execAll a s = .next t) (hi : exec i t = .next u) : execAll (a ++ [i]) s = .next u := by
  rw [execAll_append a _ s t h]; simp only [execAll]; rw [hi]

end Sys2Proof.Machine
end

