-- ==== Sys2Proof/Tests/Slice0.lean ====
section
/-! SUPPORT. The model's own tests: the decoding of every constructor, the well-formedness checks with an ill-formed term for each,
one step of every instruction on the vectors of `95_test_vectors.md` (named in the docstrings), and for every statement with
hypotheses a state and operands that meet them. -/

namespace Sys2Proof.Tests

open Sys2Proof Sys2Proof.Machine

/-! ### Helpers -/

/-- The next state of an instruction, when it answers one. -/
def after (i : Instr) (s : State) : Option State :=
  match exec i s with
  | .next t => some t
  | .fault _ => none
  | .refused _ => none

/-- The next state of the machine, when it answers one. -/
def stepped (s : State) : Option State :=
  match step s with
  | .next t => some t
  | .fault _ => none
  | .refused _ => none

/-- The reset state with the given bytes in `IBUF`. -/
def loaded (bytes : List Byte) : State := { State.reset with ibuf := bytes }

/-- The instruction a raw instruction decodes to. -/
def decoded (r : RawInstr) : Option Instr :=
  match decode r with
  | .ok i => some i
  | .error _ => none

/-- Why a raw instruction has no instruction. -/
def rejected (r : RawInstr) : Option DecodeError :=
  match decode r with
  | .ok _ => none
  | .error e => some e

/-! ### Decoding: words written out from the table of R60 (`OPW[12:8]` is the code, `OPW[7:0]` the immediate) -/

theorem test_decode_x8Init : decoded (.opw 0b00000_00000000) = some .x8Init := by decide
theorem test_decode_x8Upd : decoded (.opw 0b00001_01000001) = some (.x8Upd 0x41) := by decide
theorem test_decode_x8Hex : decoded (.opw 0b00010_00000000) = some .x8Hex := by decide
theorem test_decode_x8Sum : decoded (.opw 0b00011_00000000) = some .x8Sum := by decide
theorem test_decode_x8Vfy : decoded (.opw 0b00100_00000000) = some .x8Vfy := by decide
theorem test_decode_c16Init : decoded (.opw 0b01000_00000000) = some .c16Init := by decide
theorem test_decode_c16Upd : decoded (.opw 0b01001_01000011) = some (.c16Upd 0x43) := by decide
theorem test_decode_c16Hex : decoded (.opw 0b01010_00000000) = some .c16Hex := by decide
theorem test_decode_c16Sum : decoded (.opw 0b01011_00000000) = some .c16Sum := by decide
theorem test_decode_c16Vfy : decoded (.opw 0b01100_00000000) = some .c16Vfy := by decide
theorem test_decode_faEnc : decoded (.opw 0b10000_00000000) = some .faEnc := by decide
theorem test_decode_faDec : decoded (.opw 0b10001_00000000) = some .faDec := by decide
theorem test_decode_fbEnc : decoded (.opw 0b10010_00000000) = some .fbEnc := by decide
theorem test_decode_fbDec : decoded (.opw 0b10011_00000000) = some .fbDec := by decide
theorem test_decode_stDecA : decoded (.opw 0b11000_01110101) = some (.stDecA 0x75) := by decide
theorem test_decode_stDecB : decoded (.opw 0b11001_01101101) = some (.stDecB 0x6D) := by decide
theorem test_decode_stNoReply : decoded (.opw 0b11010_00000000) = some .stNoReply := by decide
theorem test_decode_bufPut : decoded (.opw 0b11011_11111110) = some (.bufPut 0xFE) := by decide
theorem test_decode_bufClr : decoded (.opw 0b11100_00000000) = some .bufClr := by decide
theorem test_decode_sysReset : decoded (.opw 0b11101_00000000) = some .sysReset := by decide
theorem test_decode_wireProbeA : decoded (.wire 0b00010000) = some .wireProbeA := by decide
theorem test_decode_wireProbeB : decoded (.wire 0b00000101) = some .wireProbeB := by decide
theorem test_decode_wireCancel : decoded (.wire 0b00011000) = some .wireCancel := by decide

/-- R61: an ignored immediate may hold any bits (vector X8-21). -/
theorem test_decode_ignored_immediate : decoded (.opw 0x1DFF) = some .sysReset := by decide

/-- R78: each of the 12 reserved codes, with the extreme immediates (vectors BS-5, BS-6). -/
theorem test_decode_reserved_codes :
    ∀ op ∈ reservedCodes, rejected (.opw (opWord op 0x00)) = some (.reservedCode op) ∧
      rejected (.opw (opWord op 0xFF)) = some (.reservedCode op) := by decide

theorem test_decode_unknown_line_byte : rejected (.wire 0x11) = some (.notAControlByte 0x11) := by decide

theorem test_decodeTableWord :
    decodeTableWord 16 0x1B41 = some (.bufPut 0x41) ∧ decodeTableWord 16 0x1F00 = none ∧
      decodeTableWord 16 0x2000 = none ∧ decodeTableWord 8 0x10 = some .wireProbeA ∧ decodeTableWord 8 0x00 = none := by
  decide

/-! ### Well-formedness: an ill-formed term for each check -/

theorem test_wellFormed_word : (RawInstr.opw 0x1D00).wellFormed = true := by decide
theorem test_illFormed_reserved_word : (RawInstr.opw 0x1E00).wellFormed = false := by decide
theorem test_wellFormed_control_byte : (RawInstr.wire 0x18).wellFormed = true := by decide
theorem test_illFormed_line_byte : (RawInstr.wire 0x06).wellFormed = false := by decide
theorem test_legal_default : Config.default.legal = true := by decide

/-- R29: each mask of set A must be one of `01 02 04`, each of set B one of `01 02 04 08`. -/
theorem test_illegal_mask_values :
    { Config.default with mskOnline := 0x08 }.legal = false ∧ { Config.default with mskPaperEmpty := 0x00 }.legal = false ∧
      { Config.default with mskCtrlError := 0x10 }.legal = false ∧ { Config.default with mskFiscal := 0x10 }.legal = false ∧
      { Config.default with mskCmdOk := 0x00 }.legal = false ∧ { Config.default with mskInTrans := 0x03 }.legal = false ∧
      { Config.default with mskXferOk := 0x80 }.legal = false := by decide

/-- R29: the masks of one set differ pairwise. -/
theorem test_illegal_equal_masks :
    maskSetA { Config.default with mskOnline := 0x02 } = false ∧ maskSetA { Config.default with mskOnline := 0x01 } = false ∧
      maskSetA { Config.default with mskPaperEmpty := 0x01 } = false ∧ maskSetB { Config.default with mskFiscal := 0x04 } = false ∧
      maskSetB { Config.default with mskFiscal := 0x02 } = false ∧ maskSetB { Config.default with mskFiscal := 0x01 } = false ∧
      maskSetB { Config.default with mskCmdOk := 0x02 } = false ∧ maskSetB { Config.default with mskCmdOk := 0x01 } = false ∧
      maskSetB { Config.default with mskInTrans := 0x01 } = false := by decide

/-- R5: the capacity is at least 7. -/
theorem test_capacity_bound :
    { Config.default with bufCap := some 7 }.legal = true ∧ { Config.default with bufCap := some 6 }.legal = false := by decide

/-! ### One step of every instruction -/

/-- X8-20. -/
theorem test_x8Init : (after .x8Init { State.reset with xacc := 0x3C }).map (·.xacc) = some 0xFF := by decide

/-- BS-7: a fault stays recorded in `FSTICKY` only. -/
theorem test_x8Init_after_fault :
    (after .x8Init { State.reset with stat := .fault, cause := .checksumError, fsticky := true }).map
      (fun t => (t.stat, t.cause, t.fsticky)) = some (.ok, .none, true) := by decide

/-- X8-22 and X8-24. -/
theorem test_x8Upd :
    (after (.x8Upd 0x41) State.reset).map (·.xacc) = some 0xBE ∧
      (after (.x8Upd 0xFF) { State.reset with xacc := 0xBE }).map (·.xacc) = some 0x41 := by decide

/-- X8-26: the leading zero is kept. -/
theorem test_x8Hex :
    (after .x8Hex { State.reset with xacc := 0x0A }).map (fun t => (t.obuf, t.plen, t.xacc)) =
      some ([0x30, 0x41], 2, 0x0A) := by decide

/-- X8-4. -/
theorem test_x8Sum :
    (after .x8Sum (loaded [0x41, 0x42, 0x43])).map (fun t => (t.xacc, t.obuf, t.plen)) =
      some (0xBF, [0x42, 0x46], 2) := by decide

/-- X8-1: the seed alone. -/
theorem test_x8Sum_empty : (after .x8Sum (loaded [])).map (·.obuf) = some [0x46, 0x46] := by decide

/-- X8-29 and X8-31: a lowercase code never verifies. -/
theorem test_x8Vfy :
    (after .x8Vfy (loaded [0x41, 0x42, 0x43, 0x42, 0x46])).map (fun t => (t.res, t.xacc)) = some (true, 0xBF) ∧
      (after .x8Vfy (loaded [0x41, 0x42, 0x43, 0x62, 0x66])).map (fun t => (t.res, t.stat)) = some (false, .ok) := by decide

/-- X8-34: fewer than two bytes leave `XACC`. -/
theorem test_x8Vfy_short :
    (after .x8Vfy { loaded [0x46] with xacc := 0x3C, res := true }).map (fun t => (t.res, t.xacc)) =
      some (false, 0x3C) := by decide

/-- C16-2. -/
theorem test_c16Init : (after .c16Init { State.reset with cacc := 0x31C3 }).map (·.cacc) = some 0x0000 := by decide

/-- C16-3, for the open step. -/
theorem test_c16Upd (a : Word16) (b : Byte) :
    (after (.c16Upd b) { State.reset with cacc := a }).map (·.cacc) = some (Config.crc16Step a b) := rfl

/-- C16-6 and C16-7. -/
theorem test_c16Hex :
    (after .c16Hex { State.reset with cacc := 0x00AB }).map (fun t => (t.obuf, t.plen)) = some ([0x30, 0x30, 0x41, 0x42], 4) ∧
      (after .c16Hex { State.reset with cacc := 0x31C3 }).map (·.obuf) = some [0x33, 0x31, 0x43, 0x33] := by decide

/-- C16-1. -/
theorem test_c16Sum_empty :
    (after .c16Sum { loaded [] with cacc := 0x1234 }).map (fun t => (t.cacc, t.obuf, t.plen)) =
      some (0x0000, [0x30, 0x30, 0x30, 0x30], 4) := by decide

/-- C16-5, for the open step. -/
theorem test_c16Sum_symbolic :
    (after .c16Sum (loaded [0x41, 0x42, 0x43])).map (·.cacc) =
      some (Config.crc16Step (Config.crc16Step (Config.crc16Step 0x0000 0x41) 0x42) 0x43) := rfl

/-- C16-10 and C16-11. -/
theorem test_c16Vfy :
    (after .c16Vfy (loaded [0x30, 0x30, 0x30, 0x30])).map (fun t => (t.res, t.cacc)) = some (true, 0x0000) ∧
      (after .c16Vfy (loaded [0x30, 0x30, 0x30, 0x31])).map (fun t => (t.res, t.stat)) = some (false, .ok) := by decide

/-- C16-12: fewer than four bytes leave `CACC`. -/
theorem test_c16Vfy_short :
    (after .c16Vfy { loaded [0x30, 0x30, 0x30] with cacc := 0x1234, res := true }).map (fun t => (t.res, t.cacc)) =
      some (false, 0x1234) := by decide

/-- FA-4. -/
theorem test_faEnc :
    (after .faEnc (loaded [0x31, 0x3B, 0x30, 0x24, 0x6C])).map (fun t => (t.obuf, t.plen, t.xacc)) =
      some ([0x1B, 0x50, 0x31, 0x3B, 0x30, 0x24, 0x6C, 0x38, 0x44, 0x1B, 0x5C], 11, 0x8D) := by decide

/-- FA-1: an empty payload. -/
theorem test_faEnc_empty :
    (after .faEnc (loaded [])).map (·.obuf) = some [0x1B, 0x50, 0x46, 0x46, 0x1B, 0x5C] := by decide

/-- FA-7 and FA-19: a byte before the frame stays, and the prefixes are stripped before the suffixes. -/
theorem test_faDec :
    (after .faDec (loaded [0x70, 0x1B, 0x50, 0x41, 0x42, 0x43, 0x33, 0x44, 0x1B, 0x5C])).map
        (fun t => (t.obuf, t.plen, t.rxchk, t.split)) = some ([0x70, 0x41, 0x42, 0x43, 0x33, 0x44], 4, (0x33, 0x44), true) ∧
      (after .faDec (loaded [0x41, 0x1B, 0x1B, 0x50, 0x5C, 0x42, 0x1B, 0x5C])).map (fun t => (t.obuf, t.plen, t.rxchk)) =
        some ([0x41, 0x42], 0, (0x41, 0x42)) := by decide

/-- FA-9 and FA-14: no suffix yet; fewer than two inner bytes. -/
theorem test_faDec_pending_and_short :
    (after .faDec { loaded [0x1B, 0x50, 0x31, 0x23, 0x58] with rxchk := (0x42, 0x46), split := true, obuf := [0x00] }).map
        (fun t => ((t.stat, t.obuf, t.plen), (t.rxchk, t.split, t.fsticky))) = some ((.pending, [], 0), ((0x00, 0x00), false, false)) ∧
      (after .faDec { loaded [0x1B, 0x50, 0x41, 0x1B, 0x5C] with rxchk := (0x42, 0x46), split := true }).map
        (fun t => (t.obuf, t.plen, t.rxchk, t.split)) = some ([0x41], 0, (0x00, 0x00), false) := by decide

/-- FB-1. -/
theorem test_fbEnc_empty :
    (after .fbEnc (loaded [])).map (fun t => (t.obuf, t.plen, t.cacc)) =
      some ([0x02, 0x23, 0x30, 0x30, 0x30, 0x30, 0x03], 7, 0x0000) := by decide

/-- FB-10 (bytes around the frame are dropped) and FB-4 (a wrong CRC). -/
theorem test_fbDec :
    (after .fbDec (loaded [0x15, 0x02, 0x23, 0x30, 0x30, 0x30, 0x30, 0x03, 0x99])).map (fun t => (t.stat, t.obuf, t.cacc)) =
        some (.ok, [], 0x0000) ∧
      (after .fbDec { loaded [0x02, 0x23, 0x30, 0x30, 0x30, 0x31, 0x03] with cacc := 0x1234 }).map
        (fun t => (t.stat, t.cause, t.fsticky, t.cacc)) = some (.fault, .checksumError, true, 0x0000) := by decide

/-- FB-5 and FB-8: nothing yet; no separator where it must stand. -/
theorem test_fbDec_pending_and_malformed :
    (after .fbDec { loaded [0x02, 0x61, 0x62, 0x63, 0x23, 0x39, 0x44, 0x44, 0x36] with cacc := 0x1234 }).map
        (fun t => (t.stat, t.cause, t.cacc, t.fsticky)) = some (.pending, .none, 0x1234, false) ∧
      (after .fbDec (loaded [0x02, 0x61, 0x62, 0x2A, 0x30, 0x30, 0x30, 0x30, 0x03])).map (fun t => (t.stat, t.cause, t.fsticky)) =
        some (.fault, .frameMalformed, true) := by decide

/-- ST-1 and ST-4. -/
theorem test_stDecA :
    (after (.stDecA 0x75) State.reset).map (fun t => (t.online, t.paperEmpty, t.ctrlError, t.connected, t.fiscal)) =
        some (true, false, true, true, false) ∧
      (after (.stDecA 0xFC) State.reset).map (fun t => (t.online, t.paperEmpty, t.ctrlError)) = some (true, false, false) := by
  decide

/-- ST-8: a legal choice of masks that is not the default. -/
theorem test_stDecA_other_masks :
    (after (.stDecA 0x74)
      { State.reset with cfg := { Config.default with mskOnline := 0x01, mskCtrlError := 0x04 } }).map
        (fun t => (t.online, t.paperEmpty, t.ctrlError)) = some (false, false, true) := by decide

/-- ST-2. -/
theorem test_stDecB :
    (after (.stDecB 0x6D) State.reset).map (fun t => (t.fiscal, t.cmdOk, t.inTrans, t.xferOk, t.connected, t.online)) =
      some (true, true, false, true, true, false) := by decide

/-- ST-9: set A is unchanged. -/
theorem test_stDecB_keeps_set_A :
    (after (.stDecB 0x68) { State.reset with online := true }).map (fun t => (t.fiscal, t.cmdOk, t.online)) =
      some (true, false, true) := by decide

/-- ST-6: the flags are stale but unchanged. -/
theorem test_stNoReply :
    (after .stNoReply { State.reset with connected := true, online := true, ctrlError := true }).map
      (fun t => (t.connected, t.online, t.ctrlError)) = some (false, true, true) := by decide

/-- BS-1. -/
theorem test_bufPut :
    (after (.bufPut 0x41) (loaded [0x1B, 0x50])).map (fun t => (t.ibuf, t.stat)) = some ([0x1B, 0x50, 0x41], .ok) := by decide

/-- BS-2: `BUF_CAP = 8` and `ILEN = 8`. -/
theorem test_bufPut_full :
    (after (.bufPut 0x38) { loaded (List.replicate 8 0x30) with
      obuf := [0x46, 0x46], plen := 2, cfg := { Config.default with bufCap := some 8 } }).map
        (fun t => ((t.stat, t.cause, t.fsticky), (t.ibuf.length, t.obuf, t.plen))) =
      some ((.fault, .bufOverflow, true), (8, [], 0)) := by decide

/-- BS-3: `RXCHK`, `XACC` and `FSTICKY` are kept. -/
theorem test_bufClr :
    (after .bufClr { loaded [0x41] with
      obuf := [0x41, 0x42], plen := 1, split := true, rxchk := (0x42, 0x46), xacc := 0xBF, fsticky := true }).map
        (fun t => ((t.ibuf, t.obuf, t.plen, t.split), (t.rxchk, t.xacc, t.fsticky))) =
      some (([], [], 0, false), ((0x42, 0x46), 0xBF, true)) := by decide

/-- BS-4, with `BUF_CAP = 8`: the configuration is not reset (R171). -/
theorem test_sysReset :
    after .sysReset { loaded [0x41] with
      fsticky := true, online := true, xacc := 0x00, cfg := { Config.default with bufCap := some 8 } } =
      some { State.reset with cfg := { Config.default with bufCap := some 8 } } := by decide

/-- R68 to R70 (log 7). -/
theorem test_wire :
    after .wireProbeA (loaded [0x41]) = some (loaded [0x41]) ∧ after .wireProbeB (loaded [0x41]) = some (loaded [0x41]) ∧
      after .wireCancel (loaded [0x41]) = some (loaded [0x41]) := by decide

/-! ### The step -/

/-- The placed word is the next operation and nothing stays waiting. -/
theorem test_step_runs_the_placed_word :
    stepped (State.reset.withFetchWord 16 0x0141) = some { State.reset with xacc := 0xBE } := by decide

/-- BS-5: a reserved code. -/
theorem test_step_reserved_code :
    (stepped ({ State.reset with xacc := 0x77, obuf := [0x00, 0x00] }.withFetchWord 16 0x05AA)).map
      (fun t => (t.stat, t.cause, t.fsticky, t.obuf, t.xacc)) = some (.fault, .illegalOp, true, [], 0x77) := by decide

/-- R172. -/
theorem test_step_hardware_reset :
    stepped { State.reset with xacc := 0x77, fsticky := true, pending := [.hardwareReset] } = some State.reset := by decide

/-- Log 2. -/
theorem test_step_idle : stepped State.reset = some State.reset := by decide

/-! ### A state and operands that meet the hypotheses of each statement -/

theorem test_witness_ImmediateIsUsedAsItStandsOrIgnored :
    (0x00 : BitVec 5) ∉ ([0x01, 0x09, 0x18, 0x19, 0x1B] : List (BitVec 5)) ∧
      (0x1F : BitVec 5) ∉ ([0x01, 0x09, 0x18, 0x19, 0x1B] : List (BitVec 5)) := by decide

theorem test_witness_ReservedCodeTakesIllegalOp :
    ({ State.reset with pending := [.instr (.opw 0x05AA)] } : State).pending = .instr (.opw (0x05#5 ++ 0xAA#8)) :: [] ∧
      ({ State.reset with pending := [.instr (.opw 0x1FFF)] } : State).pending = .instr (.opw (0x1F#5 ++ 0xFF#8)) :: [] ∧
      (∀ op ∈ ([0x05, 0x1F] : List (BitVec 5)), op ∈
        ([0x05, 0x06, 0x07, 0x0D, 0x0E, 0x0F, 0x14, 0x15, 0x16, 0x17, 0x1E, 0x1F] : List (BitVec 5))) := by decide

theorem test_witness_StepRunsTheDecodedInstruction :
    ({ State.reset with pending := [.instr (.opw 0x1B41), .hardwareReset] } : State).pending =
      .instr (.opw 0x1B41) :: [.hardwareReset] ∧ decode (.opw 0x1B41) = .ok (.bufPut 0x41) := ⟨rfl, rfl⟩

theorem test_witness_IdleStepChangesNothing : (loaded [0x41]).pending = [] := rfl

theorem test_witness_UnknownLineByteStopsTheModel :
    ({ State.reset with pending := [.instr (.wire 0x06)] } : State).pending = .instr (.wire 0x06) :: [] ∧
      (0x06 : Byte) ∉ ([0x10, 0x05, 0x18] : List Byte) := by decide

/-- A control byte (the guard is used) and an operation word (it is empty). -/
theorem test_witness_StepTakesOneInputInOrder :
    ({ State.reset with pending := [.instr (.wire 0x18)] } : State).pending = .instr (.wire 0x18) :: [] ∧
      (∀ r, HostInput.instr (.wire 0x18) = .instr (.wire r) → r ∈ ([0x10, 0x05, 0x18] : List Byte)) ∧
      ({ State.reset with pending := [.instr (.opw 0x1FFF)] } : State).pending = .instr (.opw 0x1FFF) :: [] ∧
      (∀ r, HostInput.instr (.opw 0x1FFF) = .instr (.wire r) → r ∈ ([0x10, 0x05, 0x18] : List Byte)) := by decide

/-- Both clauses, at the lengths 1 and 2 where they meet. -/
theorem test_witness_X8VfyComparesTheLastTwoBytes :
    (loaded [0x46]).ibuf.length < 2 ∧ (loaded [0x46, 0x46]).ibuf = [] ++ [0x46, 0x46] := by decide

/-- Both clauses, at the lengths 3 and 4 where they meet. -/
theorem test_witness_C16VfyComparesTheLastFourBytes :
    (loaded [0x30, 0x30, 0x30]).ibuf.length < 4 ∧
      (loaded [0x30, 0x30, 0x30, 0x30]).ibuf = [] ++ [0x30, 0x30, 0x30, 0x30] ∧
      ([0x30, 0x30, 0x30, 0x30] : List Byte).length = 4 := by decide

/-- The first clause: a suffix half arrived (FA-9). -/
theorem test_witness_FaDecUnwrapsTheFirstFrame_pending : pairFree 0x1B 0x5C (loaded [0x1B, 0x50, 0x41, 0x1B]).ibuf := by decide

/-- The second clause with one inner byte (FA-14). -/
theorem test_witness_FaDecUnwrapsTheFirstFrame_short :
    pairAt 0x1B 0x5C (loaded [0x1B, 0x50, 0x41, 0x1B, 0x5C]).ibuf 3 ∧
      (∀ j < 3, ¬ pairAt 0x1B 0x5C (loaded [0x1B, 0x50, 0x41, 0x1B, 0x5C]).ibuf j) ∧
      [0x41] = stripAll 0x1B 0x5C (stripAll 0x1B 0x50 ((loaded [0x1B, 0x50, 0x41, 0x1B, 0x5C]).ibuf.take (3 + 2))) ∧
      ([0x41] : List Byte).length < 2 := by decide

/-- The third clause with two inner bytes (FA-20). -/
theorem test_witness_FaDecUnwrapsTheFirstFrame_split :
    pairAt 0x1B 0x5C (loaded [0x1B, 0x50, 0x46, 0x46, 0x1B, 0x5C]).ibuf 4 ∧
      (∀ j < 4, ¬ pairAt 0x1B 0x5C (loaded [0x1B, 0x50, 0x46, 0x46, 0x1B, 0x5C]).ibuf j) ∧
      [] ++ [0x46, 0x46] =
        stripAll 0x1B 0x5C (stripAll 0x1B 0x50 ((loaded [0x1B, 0x50, 0x46, 0x46, 0x1B, 0x5C]).ibuf.take (4 + 2))) := by decide

/-- FA-10, and an empty payload. -/
theorem test_witness_FaDecNeverComparesTheChecksum :
    markerFreeA ([0x41, 0x42, 0x43] ++ [0x30, 0x30]) ∧
      (loaded [0x1B, 0x50, 0x41, 0x42, 0x43, 0x30, 0x30, 0x1B, 0x5C]).ibuf =
        [0x1B, 0x50] ++ [0x41, 0x42, 0x43] ++ [0x30, 0x30] ++ [0x1B, 0x5C] ∧
      markerFreeA ([] ++ [0x62, 0x66]) := by decide

/-- No `ETX_B` (FB-5), and no `STX_B` before it (FB-6). -/
theorem test_witness_FbDecUnwrapsAndChecksTheFirstFrame_no_frame :
    (0x03 : Byte) ∉ (loaded [0x02, 0x61]).ibuf ∧ (loaded [0x61, 0x62, 0x03]).ibuf = [0x61, 0x62] ++ [0x03] ++ [] ∧
      (0x03 : Byte) ∉ ([0x61, 0x62] : List Byte) ∧ (0x02 : Byte) ∉ ([0x61, 0x62] : List Byte) := by decide

/-- FB-7 (four bytes between the two) and FB-8 (five or more, no separator). -/
theorem test_witness_FbDecUnwrapsAndChecksTheFirstFrame_malformed :
    (loaded [0x02, 0x23, 0x30, 0x30, 0x30, 0x03]).ibuf = [] ++ [0x02] ++ [0x23, 0x30, 0x30, 0x30] ++ [0x03] ++ [] ∧
      (0x03 : Byte) ∉ ([0x23, 0x30, 0x30, 0x30] : List Byte) ∧ ([0x23, 0x30, 0x30, 0x30] : List Byte).length < 5 ∧
      (loaded [0x02, 0x61, 0x62, 0x2A, 0x30, 0x30, 0x30, 0x30, 0x03]).ibuf =
        [] ++ [0x02] ++ [0x61, 0x62, 0x2A, 0x30, 0x30, 0x30, 0x30] ++ [0x03] ++ [] ∧
      (0x03 : Byte) ∉ ([0x61, 0x62, 0x2A, 0x30, 0x30, 0x30, 0x30] : List Byte) ∧
      ([0x61, 0x62, 0x2A, 0x30, 0x30, 0x30, 0x30] : List Byte)[7 - 5]? ≠ some 0x23 := by decide

/-- FB-10 (bytes around the frame, five bytes between the two), with the right CRC and, FB-4, a wrong one. -/
theorem test_witness_FbDecUnwrapsAndChecksTheFirstFrame_checked :
    (loaded [0x15, 0x02, 0x23, 0x30, 0x30, 0x30, 0x30, 0x03, 0x99]).ibuf =
        [0x15] ++ [0x02] ++ [] ++ [0x23] ++ [0x30, 0x30, 0x30, 0x30] ++ [0x03] ++ [0x99] ∧
      ([0x30, 0x30, 0x30, 0x30] : List Byte).length = 4 ∧ (0x03 : Byte) ∉ ([0x15] : List Byte) ∧
      (0x02 : Byte) ∉ ([0x15] : List Byte) ∧ (0x03 : Byte) ∉ ([0x30, 0x30, 0x30, 0x30] : List Byte) ∧
      hex4 (crc16 []) = [0x30, 0x30, 0x30, 0x30] ∧
      (loaded [0x02, 0x23, 0x30, 0x30, 0x30, 0x31, 0x03]).ibuf =
        [] ++ [0x02] ++ [] ++ [0x23] ++ [0x30, 0x30, 0x30, 0x31] ++ [0x03] ++ [] ∧
      (0x03 : Byte) ∉ ([0x30, 0x30, 0x30, 0x31] : List Byte) ∧ hex4 (crc16 []) ≠ [0x30, 0x30, 0x30, 0x31] := by decide

theorem test_witness_DefaultMasksDecodeTheLowBits :
    ({ State.reset with cfg := { Config.default with bufCap := some 8 } } : State).cfg =
      { Config.default with bufCap := some 8 } := rfl

/-- ST-4: bytes that differ in the upper bits only. -/
theorem test_witness_UpperStatusBitsChangeNoState :
    State.reset.cfg.legal = true ∧ (0x04 : Byte) &&& 0x07 = 0xFC &&& 0x07 ∧ (0x08 : Byte) &&& 0x0F = 0xF8 &&& 0x0F := by decide

/-- One byte short of full, full, and unbounded. -/
theorem test_witness_BufPutAppendsOrOverflows :
    ({ loaded (List.replicate 7 0x30) with cfg := { Config.default with bufCap := some 8 } } : State).cfg.bufCap ≠ some 7 ∧
      ({ loaded (List.replicate 8 0x30) with cfg := { Config.default with bufCap := some 8 } } : State).cfg.bufCap =
        some (loaded (List.replicate 8 0x30)).ibuf.length ∧
      (loaded (List.replicate 8 0x30)).cfg.bufCap ≠ some (loaded (List.replicate 8 0x30)).ibuf.length := by decide

/-- No occurrence, and one whose neighbours would join after its removal. -/
theorem test_witness_StripAllRemovesLeftmostOccurrences :
    pairFree 0x1B 0x50 [0x50, 0x1B] ∧ pairAt 0x1B 0x50 [0x1B, 0x1B, 0x50, 0x50] 1 ∧
      (∀ j < 1, ¬ pairAt 0x1B 0x50 [0x1B, 0x1B, 0x50, 0x50] j) ∧
      stripAll 0x1B 0x50 [0x1B, 0x1B, 0x50, 0x50] = [0x1B, 0x50] := by decide

theorem test_witness_Xor8IsAnOrderFreeParity :
    ([0x41, 0x42, 0x43] : List Byte).Perm [0x43, 0x42, 0x41] ∧ 0 < 8 ∧ 7 < 8 := by decide

/-- X8-4 and X8-17, and the flip of bit 0. -/
theorem test_witness_X8VfyDetectsEverySingleBitFlip :
    (loaded [0x41, 0x42, 0x43, 0x42, 0x46]).ibuf = [0x41, 0x42, 0x43] ++ hex2 (xor8 [0x41, 0x42, 0x43]) ∧
      ([0x41, 0x42, 0x43] : List Byte)[0]? = some 0x41 ∧ 7 < 8 ∧
      (loaded [0xC1, 0x42, 0x43, 0x42, 0x46]).ibuf =
        ([0x41, 0x42, 0x43] : List Byte).set 0 (0x41 ^^^ BitVec.twoPow 8 7) ++ hex2 (xor8 [0x41, 0x42, 0x43]) ∧
      (loaded [0x41, 0x42, 0x42, 0x42, 0x46]).ibuf =
        ([0x41, 0x42, 0x43] : List Byte).set 2 (0x43 ^^^ BitVec.twoPow 8 0) ++ hex2 (xor8 [0x41, 0x42, 0x43]) := by decide

/-- Four characters at the ends of the two ranges. -/
theorem test_witness_Hex4IsABijectionOntoUppercaseText :
    ([0x30, 0x39, 0x41, 0x46] : List Byte).length = 4 ∧
      (∀ c ∈ ([0x30, 0x39, 0x41, 0x46] : List Byte),
        (0x30 ≤ c.toNat ∧ c.toNat ≤ 0x39) ∨ (0x41 ≤ c.toNat ∧ c.toNat ≤ 0x46)) ∧
      hex4 0x09AF = hex4 0x09AF ∧ hex4 0x09AF = [0x30, 0x39, 0x41, 0x46] := by decide

/-- The sequence just fills a bounded buffer; an unbounded one takes any. -/
theorem test_witness_LoadFillsTheInputBuffer :
    fitsInput { State.reset with cfg := { Config.default with bufCap := some 7 } } 7 ∧ fitsInput State.reset 1000 := by
  simp [fitsInput, State.reset, Config.default]

/-- A two-byte payload whose frame just fills a buffer of 8 (P6), and the halves of markers of FA-5 and FA-6. -/
theorem test_witness_FamilyARoundTrip :
    markerFreeA [0x41, 0x42] ∧ markerFreeA [0x50, 0x5C] ∧ markerFreeA [0x1B] ∧
      fitsInput { State.reset with cfg := { Config.default with bufCap := some 8 } } (2 + 6) := by
  refine ⟨by decide, by decide, by decide, ?_⟩
  simp [fitsInput]

/-- FB-13: a separator inside the command-string is harmless. -/
theorem test_witness_FamilyBRoundTrip :
    (0x03 : Byte) ∉ ([0x61, 0x23, 0x62] : List Byte) ∧
      fitsInput { State.reset with cfg := { Config.default with bufCap := some 10 } } (3 + 7) := by
  refine ⟨by decide, ?_⟩
  simp [fitsInput]

theorem test_witness_EveryOperationEndsOkPendingOrFault : Instr.fbDec.isOperation = true := rfl

theorem test_witness_StickyFaultRecordsAndGatesNothing :
    Instr.sysReset.isOperation = true ∧ (Instr.bufPut 0x41).isOperation = true := by decide

theorem test_witness_RepeatingAnOperationChangesNothing :
    Instr.fbDec ∈ ([.x8Sum, .x8Vfy, .c16Sum, .c16Vfy, .faEnc, .faDec, .fbEnc, .fbDec] : List Instr) := by decide

theorem test_witness_ResultsDependOnTheInputBufferOnly :
    Instr.x8Vfy ∈ ([.x8Sum, .x8Vfy, .c16Sum, .c16Vfy, .faEnc, .faDec, .fbEnc, .fbDec] : List Instr) ∧
      (loaded [0x41]).ibuf = ({ loaded [0x41] with obuf := [0x00], xacc := 0x00 } : State).ibuf := by decide

/-- A faulted block that takes two operations. -/
theorem test_witness_FstickyStaysUntilReset :
    ∃ s t : State, s.fsticky = true ∧
      (∀ h ∈ s.pending.take 2, h ≠ .hardwareReset ∧ ∀ d : Byte, h ≠ .instr (.opw (0x1D#5 ++ d))) ∧
      Host.Core.run Sys2Proof.core 2 s = .next t :=
  ⟨{ State.reset with fsticky := true, pending := [.instr (.opw 0x0000), .instr (.opw 0x1C00)] },
    { State.reset with fsticky := true }, rfl, by decide, rfl⟩

theorem test_witness_ConfigurationIsNeverWritten :
    ∃ s t : State, Host.Core.run Sys2Proof.core 1 s = .next t :=
  ⟨{ State.reset with xacc := 0x00, pending := [.instr (.opw 0x1D00)] }, State.reset, rfl⟩

/-- A step that faults from the reset state. -/
theorem test_witness_InvIsKeptByEveryStep :
    ∃ s t : State, StateInv s ∧ step s = .next t ∧ t.stat = .fault :=
  ⟨State.reset.withFetchWord 16 0x05AA, _,
    ⟨by decide, by decide, by decide, by decide, by decide, by decide⟩, rfl, rfl⟩

theorem test_witness_InvHoldsAtReset :
    Config.default.legal = true ∧ { Config.default with bufCap := some 7 }.legal = true := by decide

end Sys2Proof.Tests
end

section
/-! SUPPORT. The family `10_state.md`: what gates nothing (R24, R27) and what is never written (R28). The case split over
the instructions, and over what their scans of `IBUF` find, stands once, in `exec_cfg_and_status`. -/

namespace Sys2Proof.Machine

open Sys2Proof

/-! ### The operations that branch: one equation per branch -/

section Branches

variable {s : State}

theorem exec_x8Vfy_short (h : verifyOperand 2 s.ibuf = none) : exec .x8Vfy s = .next (s.setRes false).complete := by
  simp only [exec, execX8Vfy, h]

theorem exec_x8Vfy_split {bytes code : List Byte} (h : verifyOperand 2 s.ibuf = some (bytes, code)) :
    exec .x8Vfy s = .next ((s.setXacc (xor8 bytes)).setRes (sameText (hex2 (xor8 bytes)) code)).complete := by
  simp only [exec, execX8Vfy, h]

theorem exec_c16Vfy_short (h : verifyOperand 4 s.ibuf = none) : exec .c16Vfy s = .next (s.setRes false).complete := by
  simp only [exec, execC16Vfy, h]

theorem exec_c16Vfy_split {bytes code : List Byte} (h : verifyOperand 4 s.ibuf = some (bytes, code)) :
    exec .c16Vfy s = .next ((s.setCacc (crc16 bytes)).setRes (sameText (hex4 (crc16 bytes)) code)).complete := by
  simp only [exec, execC16Vfy, h]

theorem exec_faDec_incomplete (h : innerA s.ibuf = none) : exec .faDec s = .next s.clearSplit.hold := by
  simp only [exec, execFaDec, h]

theorem exec_faDec_inner {inner : List Byte} (h : innerA s.ibuf = some inner) :
    exec .faDec s = .next (s.deliverInner inner).complete := by
  simp only [exec, execFaDec, h]

theorem exec_fbDec_incomplete (h : scanB s.ibuf = .incomplete) : exec .fbDec s = .next s.hold := by
  simp only [exec, execFbDec, h]

theorem exec_fbDec_malformed (h : scanB s.ibuf = .malformed) : exec .fbDec s = .next (s.raise .frameMalformed) := by
  simp only [exec, execFbDec, h]

theorem exec_fbDec_match {cmd tail : List Byte} (h : scanB s.ibuf = .fields cmd tail)
    (hc : sameText (hex4 (crc16 cmd)) tail = true) :
    exec .fbDec s = .next ((s.setCacc (crc16 cmd)).deliver cmd).complete := by
  simp only [exec, execFbDec, h, hc, if_true]

theorem exec_fbDec_mismatch {cmd tail : List Byte} (h : scanB s.ibuf = .fields cmd tail)
    (hc : sameText (hex4 (crc16 cmd)) tail = false) :
    exec .fbDec s = .next ((s.setCacc (crc16 cmd)).raise .checksumError) := by
  simp only [exec, execFbDec, h, hc, Bool.false_eq_true, if_false]

theorem exec_bufPut_full {din : Byte} (h : s.inputFull = true) : exec (.bufPut din) s = .next (s.raise .bufOverflow) := by
  simp only [exec, execBufPut, h, if_true]

theorem exec_bufPut_room {din : Byte} (h : s.inputFull = false) :
    exec (.bufPut din) s = .next (s.appendInput din).complete := by
  simp only [exec, execBufPut, h, Bool.false_eq_true, if_false]

end Branches

/-! ### The status registers: the link flags (R22, R23, R26) and the outcome (R20, R21, R27) -/

/-- The eight link-status flags as one value. -/
structure LinkFlags where
  online : Bool
  paperEmpty : Bool
  ctrlError : Bool
  fiscal : Bool
  cmdOk : Bool
  inTrans : Bool
  xferOk : Bool
  connected : Bool

/-- The link flags a state holds. -/
def State.linkFlags (s : State) : LinkFlags where
  online := s.online
  paperEmpty := s.paperEmpty
  ctrlError := s.ctrlError
  fiscal := s.fiscal
  cmdOk := s.cmdOk
  inTrans := s.inTrans
  xferOk := s.xferOk
  connected := s.connected

/-- The state with other link flags and every other register as it was. -/
def State.withLinkFlags (s : State) (l : LinkFlags) : State :=
  { s with
    online := l.online, paperEmpty := l.paperEmpty, ctrlError := l.ctrlError, fiscal := l.fiscal,
    cmdOk := l.cmdOk, inTrans := l.inTrans, xferOk := l.xferOk, connected := l.connected }

/-- The state with another outcome and every other register as it was. -/
def State.withOutcome (s : State) (a : Stat) (c : Cause) (f : Bool) : State :=
  { s with stat := a, cause := c, fsticky := f }

/-- What an instruction makes of the link flags: those of its own that it writes (R22, R23, R26), the others handed on. -/
def linkEffect (i : Instr) (c : Config) (l : LinkFlags) : LinkFlags :=
  match i with
  | .stDecA din =>
    { l with
      online := maskedFlag din c.mskOnline, paperEmpty := maskedFlag din c.mskPaperEmpty,
      ctrlError := maskedFlag din c.mskCtrlError, connected := true }
  | .stDecB din =>
    { l with
      fiscal := maskedFlag din c.mskFiscal, cmdOk := maskedFlag din c.mskCmdOk,
      inTrans := maskedFlag din c.mskInTrans, xferOk := maskedFlag din c.mskXferOk, connected := true }
  | .stNoReply => { l with connected := false }
  | .sysReset => State.reset.linkFlags
  | _ => l

/-- `FSTICKY` after an operation that ended in `st` and found the value `f` (R27). -/
def stickyAfter (i : Instr) (st : Stat) (f : Bool) : Bool :=
  match i with
  | .sysReset => false
  | _ =>
    match st with
    | .fault => true
    | _ => f

/-- The next state `t` of an instruction, had it found the outcome `a`, `c` and `f`: an operation has written `STAT` and `CAUSE`
itself (R20, R21), a control byte has written none of the three (log 7). -/
def State.withFoundOutcome (t : State) (i : Instr) (a : Stat) (c : Cause) (f : Bool) : State :=
  match i.isOperation with
  | true => { t with fsticky := stickyAfter i t.stat f }
  | false => t.withOutcome a c f

theorem stickyAfter_eq (i : Instr) (st : Stat) (f : Bool) :
    stickyAfter i st f = if i = .sysReset then false else f || st == .fault := by
  unfold stickyAfter
  split
  · rfl
  · next hi =>
    rw [if_neg hi]
    cases st <;> cases f <;> rfl

theorem State.withFoundOutcome_linkFlags (t : State) (i : Instr) (a : Stat) (c : Cause) (f : Bool) :
    (t.withFoundOutcome i a c f).linkFlags = t.linkFlags := by
  unfold State.withFoundOutcome
  split <;> rfl

theorem State.deliverInner_withStatus (s : State) (l : LinkFlags) (a : Stat) (c : Cause) (f : Bool) (x : List Byte) :
    ((s.withLinkFlags l).withOutcome a c f).deliverInner x = ((s.deliverInner x).withLinkFlags l).withOutcome a c f := by
  unfold State.deliverInner
  split <;> rfl

/-- Every instruction answers a next state, keeps the configuration (R28) and reads no status register (R24, R27): with other link
flags and another outcome it answers the same next state, but for what it hands on of these registers. -/
theorem exec_cfg_and_status (i : Instr) (s : State) :
    ∃ t, exec i s = .next t ∧ t.cfg = s.cfg ∧ ∀ l a c f, exec i ((s.withLinkFlags l).withOutcome a c f) =
      .next ((t.withFoundOutcome i a c f).withLinkFlags (linkEffect i s.cfg l)) := by
  cases i with
  | x8Init | x8Upd _ | x8Hex | x8Sum | c16Init | c16Upd _ | c16Hex | c16Sum | faEnc | fbEnc | bufClr
  | stDecA _ | stDecB _ | stNoReply | sysReset | wireProbeA | wireProbeB | wireCancel =>
    exact ⟨_, rfl, rfl, fun _ _ _ _ => rfl⟩
  | x8Vfy =>
    cases h : verifyOperand 2 s.ibuf with
    | none => exact ⟨_, exec_x8Vfy_short h, rfl, fun _ _ _ _ => exec_x8Vfy_short h⟩
    | some => exact ⟨_, exec_x8Vfy_split h, rfl, fun _ _ _ _ => exec_x8Vfy_split h⟩
  | c16Vfy =>
    cases h : verifyOperand 4 s.ibuf with
    | none => exact ⟨_, exec_c16Vfy_short h, rfl, fun _ _ _ _ => exec_c16Vfy_short h⟩
    | some => exact ⟨_, exec_c16Vfy_split h, rfl, fun _ _ _ _ => exec_c16Vfy_split h⟩
  | faDec =>
    cases h : innerA s.ibuf with
    | none => exact ⟨_, exec_faDec_incomplete h, rfl, fun _ _ _ _ => exec_faDec_incomplete h⟩
    | some inner =>
      refine ⟨_, exec_faDec_inner h, State.deliverInner_cfg s inner, fun l a c f => ?_⟩
      rw [exec_faDec_inner (s := (s.withLinkFlags l).withOutcome a c f) h, State.deliverInner_withStatus]
      rfl
  | fbDec =>
    cases h : scanB s.ibuf with
    | incomplete => exact ⟨_, exec_fbDec_incomplete h, rfl, fun _ _ _ _ => exec_fbDec_incomplete h⟩
    | malformed => exact ⟨_, exec_fbDec_malformed h, rfl, fun _ _ _ _ => exec_fbDec_malformed h⟩
    | fields cmd tail =>
      cases hc : sameText (hex4 (crc16 cmd)) tail with
      | true => exact ⟨_, exec_fbDec_match h hc, rfl, fun _ _ _ _ => exec_fbDec_match h hc⟩
      | false => exact ⟨_, exec_fbDec_mismatch h hc, rfl, fun _ _ _ _ => exec_fbDec_mismatch h hc⟩
  | bufPut din =>
    cases h : s.inputFull with
    | true => exact ⟨_, exec_bufPut_full h, rfl, fun _ _ _ _ => exec_bufPut_full h⟩
    | false => exact ⟨_, exec_bufPut_room h, rfl, fun _ _ _ _ => exec_bufPut_room h⟩

/-- `exec_cfg_and_status` for the link flags alone. -/
theorem exec_withLinkFlags (i : Instr) (s : State) :
    ∃ u : State, ∀ l, exec i (s.withLinkFlags l) = .next (u.withLinkFlags (linkEffect i s.cfg l)) := by
  obtain ⟨t, -, -, h⟩ := exec_cfg_and_status i s
  exact ⟨t.withFoundOutcome i s.stat s.cause s.fsticky, fun l => h l s.stat s.cause s.fsticky⟩

theorem exec_linkFlags {i : Instr} {s t : State} (h : exec i s = .next t) : t.linkFlags = linkEffect i s.cfg s.linkFlags := by
  obtain ⟨u, hu⟩ := exec_withLinkFlags i s
  cases h.symm.trans (hu s.linkFlags)
  rfl

/-- `exec_cfg_and_status` for the outcome alone. -/
theorem exec_withOutcome (i : Instr) (s : State) :
    ∃ t, exec i s = .next t ∧ ∀ a c f, exec i (s.withOutcome a c f) = .next (t.withFoundOutcome i a c f) := by
  obtain ⟨t, ht, -, h⟩ := exec_cfg_and_status i s
  refine ⟨t, ht, fun a c f => (h s.linkFlags a c f).trans ?_⟩
  rw [← exec_linkFlags ht, ← State.withFoundOutcome_linkFlags t i a c f]
  rfl

/-- Settles O48: both next states are one state with its link flags put through `linkEffect`, which overwrites a flag or hands it
on. -/
theorem linkFlagsGateNothing : Obligations.LinkFlagsGateNothing := by
  intro i s on pe ce fi co it xo cn
  obtain ⟨u, hu⟩ := exec_withLinkFlags i s
  refine ⟨_, _, hu s.linkFlags, hu ⟨on, pe, ce, fi, co, it, xo, cn⟩, rfl, ?_⟩
  unfold linkEffect
  split <;> simp [State.withLinkFlags, State.linkFlags]

/-- Settles O50, by `exec_withOutcome`: an operation leaves of the outcome it found no more than `stickyAfter` says. -/
theorem stickyFaultRecordsAndGatesNothing : Obligations.StickyFaultRecordsAndGatesNothing := by
  refine ⟨rfl, fun i s a c f hop => ?_⟩
  obtain ⟨t, ht, h⟩ := exec_withOutcome i s
  refine ⟨t, ht, (h a c f).trans ?_⟩
  simp only [State.withFoundOutcome, hop, stickyAfter_eq]

/-! ### The configuration (R28) -/

theorem exec_keeps_cfg {i : Instr} {s t : State} (h : exec i s = .next t) : t.cfg = s.cfg := by
  obtain ⟨u, hu, hc, -⟩ := exec_cfg_and_status i s
  cases h.symm.trans hu
  exact hc

theorem accept_keeps_cfg {h : HostInput} {s t : State} (ht : accept h s = .next t) : t.cfg = s.cfg := by
  obtain ⟨-, he⟩ | ⟨r, i, -, -, he⟩ | ⟨r, op, -, -, he⟩ | ⟨r, b, -, -, he⟩ := accept_cases h s <;> rw [he] at ht
  · cases ht; rfl
  · exact exec_keeps_cfg ht
  · cases ht; rfl
  · cases ht

theorem step_keeps_cfg {s t : State} (ht : step s = .next t) : t.cfg = s.cfg := by
  unfold step at ht
  cases hp : s.pending with
  | nil => rw [advance_nil hp] at ht; cases ht; rfl
  | cons h rest => rw [advance_cons hp] at ht; exact (accept_keeps_cfg ht).trans rfl

/-- What every step of a machine keeps, every run of it keeps. -/
theorem run_keeps {M : Host.Core} {P : M.State → Prop} (hstep : ∀ s t, P s → M.step s = .next t → P t) {n : Nat}
    {s t : M.State} (hs : P s) (hrun : M.run n s = .next t) : P t := by
  induction n generalizing s with
  | zero => cases hrun; exact hs
  | succ n ih =>
    unfold Host.Core.run at hrun
    split at hrun
    next u hu => exact ih (hstep s u hs hu) hrun
    all_goals cases hrun

/-- Settles O54, by `run_keeps` for the property of having the starting configuration. -/
theorem configurationIsNeverWritten : Obligations.ConfigurationIsNeverWritten := fun _ s _ hrun =>
  run_keeps (M := Sys2Proof.core) (P := fun u => u.cfg = s.cfg)
    (fun _ _ hu hstep => (step_keeps_cfg hstep).trans hu) rfl hrun

end Sys2Proof.Machine
end

section
/-! SUPPORT. The family `30_encoding.md`: the operation table (R60, R61), the reserved codes (R78), the checksum text (R71) and
the undecoded bits of a status byte (R80). -/

namespace Sys2Proof

/-! ### The rows of the operation table and the reserved codes -/

/-- The 20 rows of the table of R60, code and operation, for the immediate `d`. -/
def operationTable (d : Byte) : List (BitVec 5 × Instr) :=
  [(0x00, .x8Init), (0x01, .x8Upd d), (0x02, .x8Hex), (0x03, .x8Sum), (0x04, .x8Vfy),
    (0x08, .c16Init), (0x09, .c16Upd d), (0x0A, .c16Hex), (0x0B, .c16Sum), (0x0C, .c16Vfy),
    (0x10, .faEnc), (0x11, .faDec), (0x12, .fbEnc), (0x13, .fbDec),
    (0x18, .stDecA d), (0x19, .stDecB d), (0x1A, .stNoReply),
    (0x1B, .bufPut d), (0x1C, .bufClr), (0x1D, .sysReset)]

/-- The codes of the five operations that use `DIN` (R61). -/
def immediateCodes : List (BitVec 5) := [0x01, 0x09, 0x18, 0x19, 0x1B]

/-- No code is left without a row of the table or a place among the reserved ones. -/
theorem reserved_or_tabulated (op : BitVec 5) (d : Byte) : op ∈ reservedCodes ∨ ∃ i, (op, i) ∈ operationTable d := by
  have hcodes : ∀ c : BitVec 5, c ∈ reservedCodes ∨ c ∈ (operationTable 0).map Prod.fst := by decide
  have hmap : (operationTable d).map Prod.fst = (operationTable 0).map Prod.fst := rfl
  rw [← hmap] at hcodes
  simpa using hcodes op

theorem decodeFields_of_tabulated {op : BitVec 5} {d : Byte} {i : Instr} (h : (op, i) ∈ operationTable d) :
    decodeFields op d = .ok i := by
  have hrows : ∀ r ∈ operationTable d, decodeFields r.1 d = .ok r.2 := by
    simp [operationTable, decodeFields]
  exact hrows _ h

theorem decodeFields_of_reserved {op : BitVec 5} (h : op ∈ reservedCodes) (d : Byte) :
    decodeFields op d = .error (.reservedCode op) := by
  have hcodes : ∀ c ∈ reservedCodes, decodeFields c d = .error (.reservedCode c) := by
    simp [reservedCodes, decodeFields]
  exact hcodes op h

/-- The decoder over the two fields is the table of R60. -/
theorem decodeFields_eq_ok_iff {op : BitVec 5} {d : Byte} {i : Instr} :
    decodeFields op d = .ok i ↔ (op, i) ∈ operationTable d := by
  refine ⟨fun h => ?_, decodeFields_of_tabulated⟩
  obtain hr | ⟨j, hj⟩ := reserved_or_tabulated op d
  · cases (decodeFields_of_reserved hr d).symm.trans h
  · cases (decodeFields_of_tabulated hj).symm.trans h
    exact hj

/-- A row whose code is not one of the five of R61 stands in the table for every immediate. -/
theorem tabulated_of_not_immediate {op : BitVec 5} {d : Byte} {i : Instr} (h : (op, i) ∈ operationTable d)
    (hop : op ∉ immediateCodes) (d' : Byte) : (op, i) ∈ operationTable d' := by
  have hrows : ∀ r ∈ operationTable d, r.1 ∈ immediateCodes ∨ r ∈ operationTable d' := by
    simp [operationTable, immediateCodes]
  exact (hrows _ h).resolve_left hop

theorem decodeFields_ignores_din {op : BitVec 5} (hop : op ∉ immediateCodes) (d d' : Byte) :
    decodeFields op d = decodeFields op d' := by
  obtain hr | ⟨i, hi⟩ := reserved_or_tabulated op d
  · rw [decodeFields_of_reserved hr, decodeFields_of_reserved hr]
  · rw [decodeFields_of_tabulated hi, decodeFields_of_tabulated (tabulated_of_not_immediate hi hop d')]

/-- Settles O2: a word is its two fields, and over these the decoder is the table. -/
theorem decoderMatchesTheOperationTable : Obligations.DecoderMatchesTheOperationTable := by
  intro w i
  constructor
  · intro h
    exact ⟨OpWord.op w, OpWord.din w, (append_op_din w).symm, decodeFields_eq_ok_iff.mp h⟩
  · rintro ⟨op, d, rfl, h⟩
    rw [decode_append]
    exact decodeFields_of_tabulated h

/-- Settles O3, by `decodeFields_ignores_din` and the five rows with an immediate. -/
theorem immediateIsUsedAsItStandsOrIgnored : Obligations.ImmediateIsUsedAsItStandsOrIgnored := by
  refine ⟨fun op d d' hop => ?_, fun d => ?_⟩
  · rw [decode_append, decode_append]
    exact decodeFields_ignores_din hop d d'
  · simp only [decode_append]
    exact ⟨rfl, rfl, rfl, rfl, rfl⟩

namespace Machine

theorem accept_of_reserved {op : BitVec 5} (h : op ∈ reservedCodes) (d : Byte) (s : State) :
    accept (.instr (.opw (op ++ d))) s = .next (s.raise .illegalOp) := by
  simp only [accept, decode_append, decodeFields_of_reserved h]

/-- Settles O6: the input taken is a reserved code, and `raise` is the fault entry of R158. -/
theorem reservedCodeTakesIllegalOp : Obligations.ReservedCodeTakesIllegalOp := fun _ _ d _ hp hop =>
  (advance_cons hp).trans (accept_of_reserved hop d _)

/-! ### The checksum text -/

/-- A bit slice is a digit of the value in base `2 ^ len`. -/
theorem extractLsb'_eq_ofNat_div {w : Nat} (v : BitVec w) (start len : Nat) :
    v.extractLsb' start len = BitVec.ofNat len (v.toNat / 2 ^ start % 2 ^ len) := by
  apply BitVec.eq_of_toNat_eq
  simp [BitVec.extractLsb'_toNat, Nat.shiftRight_eq_div_pow]

/-- Settles O36: each digit is a slice of four bits, and the highest needs no remainder because the value ends there. -/
theorem hexTextIsUppercasePositional : Obligations.HexTextIsUppercasePositional := by
  refine ⟨by decide, fun v => ?_, fun w => ?_⟩
  · have htop : v.toNat / 16 % 16 = v.toNat / 16 := by omega
    simp [hex2, extractLsb'_eq_ofNat_div, htop]
  · have htop : w.toNat / 4096 % 16 = w.toNat / 4096 := by omega
    simp [hex4, extractLsb'_eq_ofNat_div, htop]

/-! ### The undecoded bits of a status byte -/

/-- A flag whose mask lies within `low` depends on these bits of the status byte only. -/
theorem maskedFlag_congr {d d' low msk : Byte} (hm : low &&& msk = msk) (h : d &&& low = d' &&& low) :
    maskedFlag d msk = maskedFlag d' msk := by
  have hand : d &&& msk = d' &&& msk := by
    rw [← hm, ← BitVec.and_assoc, h, BitVec.and_assoc]
  simp only [maskedFlag, hand]

theorem and_of_mem_legalMasksA : ∀ msk ∈ legalMasksA, 0x07 &&& msk = msk := by decide

theorem and_of_mem_legalMasksB : ∀ msk ∈ legalMasksB, 0x0F &&& msk = msk := by decide

/-- What a legal configuration says of each mask by itself (R29). -/
theorem masks_mem_of_legal {c : Config} (h : c.legal = true) :
    (c.mskOnline ∈ legalMasksA ∧ c.mskPaperEmpty ∈ legalMasksA ∧ c.mskCtrlError ∈ legalMasksA) ∧
      c.mskFiscal ∈ legalMasksB ∧ c.mskCmdOk ∈ legalMasksB ∧ c.mskInTrans ∈ legalMasksB ∧ c.mskXferOk ∈ legalMasksB := by
  simp only [Config.legal, Bool.and_eq_true, List.contains_iff_mem] at h
  tauto

/-- Settles O31: every flag is the same for both bytes, since a legal mask lies within the low bits. -/
theorem upperStatusBitsChangeNoState : Obligations.UpperStatusBitsChangeNoState := by
  intro s d d' hlegal
  obtain ⟨⟨hon, hpe, hce⟩, hfi, hco, hit, hxo⟩ := masks_mem_of_legal hlegal
  refine ⟨fun h => ⟨_, rfl, ?_⟩, fun h => ⟨_, rfl, ?_⟩⟩
  · have hflag : ∀ msk ∈ legalMasksA, maskedFlag d' msk = maskedFlag d msk := fun msk hm =>
      maskedFlag_congr (and_of_mem_legalMasksA msk hm) h.symm
    simp only [exec, execStDecA, hflag _ hon, hflag _ hpe, hflag _ hce]
  · have hflag : ∀ msk ∈ legalMasksB, maskedFlag d' msk = maskedFlag d msk := fun msk hm =>
      maskedFlag_congr (and_of_mem_legalMasksB msk hm) h.symm
    simp only [exec, execStDecB, hflag _ hfi, hflag _ hco, hflag _ hit, hflag _ hxo]

end Machine

end Sys2Proof
end

section
/-! SUPPORT. The family `40_xor8.md`: the XOR-8 unit (R90 to R94). -/

namespace Sys2Proof.Machine

open Sys2Proof

/-! ### The two ends of a verify (R94), by the length of `IBUF` -/

section Verify

variable {s : State}

theorem exec_x8Vfy_of_length_lt (h : s.ibuf.length < 2) :
    exec .x8Vfy s = .next { s with res := false, stat := .ok, cause := .none } :=
  exec_x8Vfy_short (verifyOperand_short h)

theorem exec_x8Vfy_of_append {bytes code : List Byte} (h : s.ibuf = bytes ++ code) (hcode : code.length = 2) :
    exec .x8Vfy s =
      .next { s with xacc := xor8 bytes, res := decide (hex2 (xor8 bytes) = code), stat := .ok, cause := .none } :=
  exec_x8Vfy_split (verifyOperand_eq_some.mpr ⟨h, hcode⟩)

end Verify

/-- Settles O16: a buffer of fewer than two bytes has no verify operand, and a buffer that ends in two code bytes has exactly the
split before them. -/
theorem x8VfyComparesTheLastTwoBytes : Obligations.X8VfyComparesTheLastTwoBytes :=
  ⟨decode_append 0x04, fun _ h => exec_x8Vfy_of_length_lt h, fun _ _ _ _ h => exec_x8Vfy_of_append h rfl⟩

/-! ### The operations without a branch: the model's composition of named writes is the one update of the statement -/

/-- Settles O12: the seed of R31 is `0xFF`. -/
theorem x8InitSeedsTheAccumulator : Obligations.X8InitSeedsTheAccumulator :=
  ⟨decode_append 0x00, fun _ => rfl⟩

/-- Settles O13: one iteration of the algorithm is one exclusive or with the immediate. -/
theorem x8UpdFoldsOneByte : Obligations.X8UpdFoldsOneByte :=
  ⟨decode_append 0x01, fun _ _ => rfl⟩

/-- Settles O14: `PLEN` is the length of the rendered byte, which is 2 (`hex2_length`). -/
theorem x8HexRendersTheAccumulator : Obligations.X8HexRendersTheAccumulator :=
  ⟨decode_append 0x02, fun _ => rfl⟩

/-- Settles O15: the value put into `XACC` is the one rendered, and neither depends on what `XACC` held. -/
theorem x8SumChecksumsTheInputBuffer : Obligations.X8SumChecksumsTheInputBuffer :=
  ⟨decode_append 0x03, fun _ => rfl⟩

end Sys2Proof.Machine
end

section
/-! SUPPORT. The family `41_crc16.md`: the CRC16 unit around the open step (R100 to R104). -/

namespace Sys2Proof.Machine

open Sys2Proof

/-! ### The two ends of a verify (R104), by the length of `IBUF` -/

section Verify

variable {s : State}

/-- Without an operand there is no checksum to compute, so `CACC` is not written. -/
theorem exec_c16Vfy_of_length_lt (h : s.ibuf.length < 4) :
    exec .c16Vfy s = .next { s with res := false, stat := .ok, cause := .none } :=
  exec_c16Vfy_short (verifyOperand_short h)

theorem exec_c16Vfy_of_append {bytes code : List Byte} (h : s.ibuf = bytes ++ code) (hcode : code.length = 4) :
    exec .c16Vfy s =
      .next { s with cacc := crc16 bytes, res := decide (hex4 (crc16 bytes) = code), stat := .ok, cause := .none } :=
  exec_c16Vfy_split (verifyOperand_eq_some.mpr ⟨h, hcode⟩)

end Verify

/-- Settles O21: the split of the buffer into bytes and four code characters is the only one the model can find, and under four
bytes it finds none. -/
theorem c16VfyComparesTheLastFourBytes : Obligations.C16VfyComparesTheLastFourBytes :=
  ⟨decode_append 0x0C, fun _ h => exec_c16Vfy_of_length_lt h, fun _ _ _ h hcode => exec_c16Vfy_of_append h hcode⟩

/-! ### The operations without a branch

Each is one composition of named writes in the model, so its equation holds by unfolding, with the step left open (R105). -/

/-- Settles O17: the seed of R31 is `0x0000`. -/
theorem c16InitSeedsTheAccumulator : Obligations.C16InitSeedsTheAccumulator :=
  ⟨decode_append 0x08, fun _ => rfl⟩

/-- Settles O18: the operation applies the step once and looks at nothing inside it. -/
theorem c16UpdFoldsOneByte : Obligations.C16UpdFoldsOneByte :=
  ⟨decode_append 0x09, fun _ _ => rfl⟩

/-- Settles O19: `PLEN` is the length of the rendered word, which is 4 (`hex4_length`). -/
theorem c16HexRendersTheAccumulator : Obligations.C16HexRendersTheAccumulator :=
  ⟨decode_append 0x0A, fun _ => rfl⟩

/-- Settles O20: the fold starts at the seed, so the sum put into `CACC` and rendered does not depend on what `CACC` held. -/
theorem c16SumChecksumsTheInputBuffer : Obligations.C16SumChecksumsTheInputBuffer :=
  ⟨decode_append 0x0B, fun _ => rfl⟩

end Sys2Proof.Machine
end

section
/-! SUPPORT. The family `42_frame_a.md`: the frame codec of family A (R110, R112, R113). -/

namespace Sys2Proof.Machine

open Sys2Proof

/-! ### Where a pair stands in a concatenation -/

section Pairs

variable {p q : Byte} {x y : List Byte} {k : Nat}

/-- A pair of a concatenation stands in the left part, across the seam, or in the right part. -/
theorem pairAt_append : pairAt p q (x ++ y) k ↔
    pairAt p q x k ∨ (k + 1 = x.length ∧ x.getLast? = some p ∧ y.head? = some q) ∨
      (x.length ≤ k ∧ pairAt p q y (k - x.length)) := by
  rw [List.getLast?_eq_getElem?, List.head?_eq_getElem?]
  obtain hlt | heq | hge : k + 1 < x.length ∨ k + 1 = x.length ∨ x.length ≤ k := by omega
  · have hk : k < x.length := by omega
    simp [pairAt, List.getElem?_append_left, hlt, hk, hlt.ne, hk.not_ge]
  · have hk : k < x.length := by omega
    have hlast : x.length - 1 = k := by omega
    simp [pairAt, List.getElem?_append_left, List.getElem?_append_right, heq, hk, hk.not_ge, hlast]
  · have hsucc : k + 1 - x.length = k - x.length + 1 := by omega
    have hne : k + 1 ≠ x.length := by omega
    simp [pairAt, List.getElem?_append_right, hge, Nat.le_succ_of_le hge, hsucc, hne]

theorem pairFree_iff : pairFree p q x ↔ ∀ k, ¬ pairAt p q x k :=
  ⟨fun h k hk => h k (Nat.lt_of_succ_lt (pairAt_lt hk)) hk, fun h k _ => h k⟩

theorem pairFree_append (hx : pairFree p q x) (hy : pairFree p q y)
    (hseam : ¬ (x.getLast? = some p ∧ y.head? = some q)) : pairFree p q (x ++ y) := by
  rw [pairFree_iff] at hx hy ⊢
  intro k hk
  obtain h | ⟨-, h⟩ | ⟨-, h⟩ := pairAt_append.mp hk
  · exact hx k h
  · exact hseam h
  · exact hy _ h

/-- A pair put after a sequence without it stands there for the first time: two different bytes do not overlap with
themselves. -/
theorem first_pairAt_append_pair (hx : pairFree p q x) (hpq : p ≠ q) :
    pairAt p q (x ++ [p, q]) x.length ∧ ∀ j < x.length, ¬ pairAt p q (x ++ [p, q]) j := by
  refine ⟨by simp [pairAt], fun j hj hat => ?_⟩
  obtain h | ⟨-, -, h⟩ | ⟨h, -⟩ := pairAt_append.mp hat
  · exact pairFree_iff.mp hx j h
  · exact hpq (by simpa using h)
  · omega

/-! ### Stripping (R9) by where the pair stands -/

theorem stripAll_of_pairFree (h : pairFree p q x) : stripAll p q x = x := by
  rw [pairFree_iff] at h
  fun_induction stripAll p q x with
  | case1 => rfl
  | case2 => rfl
  | case3 a b rest hab => exact absurd (by simpa [pairAt] using hab) (h 0)
  | case4 a b rest _ ih => rw [ih fun k => h (k + 1)]

theorem stripAll_of_first_pairAt (h : pairAt p q x k) (hmin : ∀ j < k, ¬ pairAt p q x j) :
    stripAll p q x = x.take k ++ stripAll p q (x.drop (k + 2)) := by
  fun_induction stripAll p q x generalizing k with
  | case1 => simp [pairAt] at h
  | case2 a => simp [pairAt] at h
  | case3 a b rest hab =>
    obtain rfl : k = 0 := by
      by_contra hk
      exact hmin 0 (Nat.pos_of_ne_zero hk) (by simpa [pairAt] using hab)
    rfl
  | case4 a b rest hab ih =>
    cases k with
    | zero => exact absurd (by simpa [pairAt] using h) hab
    | succ k => rw [ih h fun j hj => hmin (j + 1) (Nat.succ_lt_succ hj)]; rfl

theorem stripAll_append_pair (hx : pairFree p q x) (hpq : p ≠ q) : stripAll p q (x ++ [p, q]) = x := by
  obtain ⟨hat, hfirst⟩ := first_pairAt_append_pair hx hpq
  rw [stripAll_of_first_pairAt hat hfirst]
  simp [stripAll]

end Pairs

/-! ### The inner bytes (R112) -/

theorem innerA_eq_none {b : List Byte} (h : pairFree escA closeA b) : innerA b = none := by
  simp only [innerA, find_pair_none h]

theorem innerA_of_first_suffix {b : List Byte} {k : Nat} (h : pairAt escA closeA b k)
    (hfirst : ∀ j < k, ¬ pairAt escA closeA b j) :
    innerA b = some (stripAll escA closeA (stripAll escA openA (b.take (k + 2)))) := by
  simp only [innerA, find_pair_first h hfirst]

/-- Of a frame around bytes without a marker exactly the envelope is stripped: its prefix is the only prefix, and its suffix
the only suffix. -/
theorem innerA_envelope {y : List Byte} (h : markerFreeA y) : innerA ([escA, openA] ++ y ++ [escA, closeA]) = some y := by
  obtain ⟨hopen, hclose⟩ : pairFree escA openA y ∧ pairFree escA closeA y := h
  have hprefix : pairFree escA openA (y ++ [escA, closeA]) := pairFree_append hopen (by decide) (by simp [escA, openA])
  have hsuffix : pairFree escA closeA ([escA, openA] ++ y) := pairFree_append (by decide) hclose (by simp [escA, openA])
  have hstrip : stripAll escA openA ([escA, openA] ++ (y ++ [escA, closeA])) = y ++ [escA, closeA] :=
    (stripAll_pair ..).trans (stripAll_of_pairFree hprefix)
  obtain ⟨hat, hfirst⟩ := first_pairAt_append_pair hsuffix (by decide)
  rw [innerA_of_first_suffix hat hfirst, List.take_of_length_le (by simp), List.append_assoc, hstrip,
    stripAll_append_pair hclose (by decide)]

/-! ### The ends of `FA.DEC` (R112), by the inner bytes -/

section Decoder

variable {s : State}

theorem exec_faDec_of_no_suffix (h : pairFree escA closeA s.ibuf) :
    exec .faDec s = .next { s with
      obuf := [], plen := 0, rxchk := (0x00, 0x00), split := false, stat := .pending, cause := .none } :=
  exec_faDec_incomplete (innerA_eq_none h)

theorem exec_faDec_of_inner_short {inner : List Byte} (h : innerA s.ibuf = some inner) (hlen : inner.length < 2) :
    exec .faDec s = .next { s with
      obuf := inner, plen := 0, rxchk := (0x00, 0x00), split := false, stat := .ok, cause := .none } := by
  rw [exec_faDec_inner h, State.deliverInner_short s hlen]; rfl

theorem exec_faDec_of_inner_append {bytes : List Byte} {c1 c2 : Byte} (h : innerA s.ibuf = some (bytes ++ [c1, c2])) :
    exec .faDec s = .next { s with
      obuf := bytes ++ [c1, c2], plen := bytes.length, rxchk := (c1, c2), split := true, stat := .ok, cause := .none } := by
  rw [exec_faDec_inner h, State.deliverInner_append]; rfl

theorem exec_faDec_no_fault (s : State) : ∃ t, exec .faDec s = .next t ∧ t.stat ≠ .fault := by
  cases h : innerA s.ibuf with
  | none => exact ⟨_, exec_faDec_incomplete h, by simp⟩
  | some inner => exact ⟨_, exec_faDec_inner h, by simp⟩

end Decoder

/-- Settles O23: the search decides between the hold and the inner bytes, and their length between the two ways to deliver. -/
theorem faDecUnwrapsTheFirstFrame : Obligations.FaDecUnwrapsTheFirstFrame := by
  refine ⟨decode_append 0x11, fun _ h => exec_faDec_of_no_suffix h, fun s k inner hat hfirst hinner => ?_⟩
  have hfound : innerA s.ibuf = some inner := hinner ▸ innerA_of_first_suffix hat hfirst
  refine ⟨fun hlen => exec_faDec_of_inner_short hfound hlen, ?_⟩
  rintro bytes c1 c2 rfl
  exact exec_faDec_of_inner_append hfound

/-- Settles O24: the inner bytes of such a frame are what stands in its envelope (`innerA_envelope`), and `c1` and `c2` are
compared with nothing. -/
theorem faDecNeverComparesTheChecksum : Obligations.FaDecNeverComparesTheChecksum := by
  refine ⟨fun s x c1 c2 hfree hibuf => exec_faDec_of_inner_append ?_, exec_faDec_no_fault⟩
  have henvelope : s.ibuf = [escA, openA] ++ (x ++ [c1, c2]) ++ [escA, closeA] := by
    rw [hibuf, List.append_assoc [0x1B, 0x50] x]; rfl
  rw [henvelope, innerA_envelope hfree]

/-- Settles O22: the bytes delivered are the frame of R62, which is 6 bytes longer than its payload (`frameA_length`). -/
theorem faEncWrapsThePayload : Obligations.FaEncWrapsThePayload := by
  refine ⟨decode_append 0x10, fun s => ?_⟩
  rw [← frameA_length s.ibuf]
  rfl

end Sys2Proof.Machine
end

section
/-! SUPPORT. The family `43_frame_b.md`: the frame codec of family B (R120, R122). -/

namespace Sys2Proof.Machine

open Sys2Proof

/-! ### The ends of `FB.DEC` (R122), by what the scan finds -/

section Decoder

variable {s : State}

theorem exec_fbDec_of_incomplete (h : scanB s.ibuf = .incomplete) :
    exec .fbDec s = .next { s with obuf := [], plen := 0, stat := .pending, cause := .none } :=
  exec_fbDec_incomplete h

theorem exec_fbDec_of_malformed (h : scanB s.ibuf = .malformed) :
    exec .fbDec s = .next { s with
      obuf := [], plen := 0, stat := .fault, cause := .frameMalformed, fsticky := true } :=
  exec_fbDec_malformed h

/-- Once the fields stand, the CRC alone decides between the delivery and the fault; `CACC` holds it in both (R151). -/
theorem exec_fbDec_of_fields {cmd tail : List Byte} (h : scanB s.ibuf = .fields cmd tail) :
    exec .fbDec s =
      if hex4 (crc16 cmd) = tail then
        .next { s with cacc := crc16 cmd, obuf := cmd, plen := cmd.length, stat := .ok, cause := .none }
      else
        .next { s with
          cacc := crc16 cmd, obuf := [], plen := 0, stat := .fault, cause := .checksumError, fsticky := true } := by
  split
  next heq => exact exec_fbDec_match h (decide_eq_true heq)
  next hne => exact exec_fbDec_mismatch h (decide_eq_false hne)

end Decoder

/-- Settles O26: each clause fixes the first `03` and the first `02` before it, hence what the scan finds, and that decides the
end. -/
theorem fbDecUnwrapsAndChecksTheFirstFrame : Obligations.FbDecUnwrapsAndChecksTheFirstFrame := by
  refine ⟨decode_append 0x13, fun s hetx => ?_, fun s pre post hibuf hetx hstx => ?_,
    fun s pre mid post hibuf hetx hstx hmid hbad => ?_,
    fun s pre cmd tail post hibuf hlen hetx hstx hcmd htail => ?_⟩
  · exact exec_fbDec_of_incomplete (scanB_incomplete hetx)
  · exact exec_fbDec_of_malformed (hibuf ▸ scanB_no_stx hetx hstx)
  · apply exec_fbDec_of_malformed
    rw [hibuf, scanB_between hetx hstx hmid, if_pos hbad]
  · exact exec_fbDec_of_fields (hibuf ▸ scanB_frame hlen hetx hstx hcmd htail)

/-- Settles O25: the bytes delivered are the frame of R64, which is 7 bytes longer than its command-string
(`frameB_length`). -/
theorem fbEncWrapsTheCommandString : Obligations.FbEncWrapsTheCommandString := by
  refine ⟨decode_append 0x12, fun s => ?_⟩
  rw [← frameB_length s.ibuf]
  rfl

end Sys2Proof.Machine
end

section
/-! SUPPORT. The family `44_status.md`: the status-byte decoder (R130 to R132). -/

namespace Sys2Proof.Machine

open Sys2Proof

/-! ### The three operations

None has a branch, and `maskedFlag` is the flag of R22 and R23 for any two bytes, so the equations hold for every configuration
of the masks, the illegal ones included (log 11). -/

/-- Settles O27: the writes are set A through its three masks, `CONNECTED` and the outcome, and no other register's. -/
theorem stDecaDecodesStatusByteA : Obligations.StDecaDecodesStatusByteA :=
  ⟨decode_append 0x18, fun _ _ => rfl⟩

/-- Settles O28: the writes are set B through its four masks, `CONNECTED` and the outcome, and no other register's. -/
theorem stDecbDecodesStatusByteB : Obligations.StDecbDecodesStatusByteB :=
  ⟨decode_append 0x19, fun _ _ => rfl⟩

/-- Settles O29: the immediate is ignored, and no flag of either set is written. -/
theorem stNoreplyMarksTheLinkNotConnected : Obligations.StNoreplyMarksTheLinkNotConnected :=
  ⟨decode_append 0x1A, fun _ => rfl⟩

end Sys2Proof.Machine
end

section
/-! SUPPORT. The family `45_buffer_system.md`: the buffer and system operations (R140 to R142). -/

namespace Sys2Proof.Machine

open Sys2Proof

/-! ### `BUF.PUT`: the test `ILEN = BUF_CAP` decides -/

theorem State.inputFull_eq_false_iff (s : State) : s.inputFull = false ↔ s.cfg.bufCap ≠ some s.ibuf.length := by
  rw [← Bool.not_eq_true, State.inputFull_iff]

/-- Settles O32: on a full buffer `raise` is the fault entry of R158, which leaves `IBUF` alone. -/
theorem bufPutAppendsOrOverflows : Obligations.BufPutAppendsOrOverflows :=
  ⟨decode_append 0x1B,
    fun s _ hroom => exec_bufPut_room (s.inputFull_eq_false_iff.mpr hroom),
    fun s _ hfull => exec_bufPut_full (s.inputFull_iff.mpr hfull)⟩

/-! ### `BUF.CLR` and `SYS.RESET`: no branch -/

/-- Settles O33: `RXCHK` is not among the registers cleared (conflict C12). -/
theorem bufClrEmptiesBothBuffers : Obligations.BufClrEmptiesBothBuffers :=
  ⟨decode_append 0x1C, fun _ => rfl⟩

/-- Settles O34: the reset state takes over the configuration and the waiting inputs, and no register. -/
theorem sysResetWritesEveryRegister : Obligations.SysResetWritesEveryRegister :=
  ⟨decode_append 0x1D, fun _ => rfl⟩

end Sys2Proof.Machine
end

section
/-! SUPPORT. The family `60_exceptions.md`: the three outcomes of an operation and the causes of a fault (R150 to R153). -/

namespace Sys2Proof.Machine

open Sys2Proof

/-! ### What the family B scan has found, read back from its answer (R122) -/

section Scan

variable {b : List Byte}

/-- The three shapes of a read buffer that the scan tells apart: no `03`; no `02` before the first `03`; the first `02` and the
first `03` with some bytes between them. -/
theorem scanB_buffer_cases (b : List Byte) :
    (0x03 : Byte) ∉ b ∨
    (∃ pre post, b = pre ++ [0x03] ++ post ∧ (0x03 : Byte) ∉ pre ∧ (0x02 : Byte) ∉ pre) ∨
    (∃ pre mid post, b = pre ++ [0x02] ++ mid ++ [0x03] ++ post ∧
      (0x03 : Byte) ∉ pre ∧ (0x02 : Byte) ∉ pre ∧ (0x03 : Byte) ∉ mid) := by
  by_cases hetx : (0x03 : Byte) ∈ b
  case neg => exact .inl hetx
  obtain ⟨front, post, rfl, hfront⟩ := List.eq_append_cons_of_mem hetx
  by_cases hstx : (0x02 : Byte) ∈ front
  · obtain ⟨pre, mid, rfl, hpre⟩ := List.eq_append_cons_of_mem hstx
    simp only [List.mem_append, List.mem_cons, not_or] at hfront
    exact .inr (.inr ⟨pre, mid, post, by simp, hfront.1, hpre, hfront.2.2⟩)
  · exact .inr (.inl ⟨front, post, by simp, hfront, hstx⟩)

theorem etx_mem_of_scanB_malformed (h : scanB b = .malformed) : (0x03 : Byte) ∈ b := by
  by_contra hetx
  cases (scanB_incomplete hetx).symm.trans h

/-- A sequence with the separator five bytes before its end is a command-string, the separator and four characters (R65). -/
theorem eq_append_of_getElem?_sub_five {mid : List Byte} {c : Byte} (hlen : 5 ≤ mid.length)
    (hsep : mid[mid.length - 5]? = some c) :
    mid = mid.take (mid.length - 5) ++ [c] ++ mid.drop (mid.length - 4) := by
  obtain ⟨hlt, rfl⟩ := List.getElem?_eq_some_iff.mp hsep
  have hnext : mid.length - 4 = mid.length - 5 + 1 := by omega
  rw [hnext, List.take_append_getElem, List.take_append_drop]

/-- The fields that the scan answers stand in the buffer as a family B frame (R64). -/
theorem exists_frame_of_scanB_fields {cmd tail : List Byte} (h : scanB b = .fields cmd tail) :
    ∃ pre post, b = pre ++ [0x02] ++ cmd ++ [0x23] ++ tail ++ [0x03] ++ post ∧ tail.length = 4 := by
  obtain hetx | ⟨pre, post, rfl, hetx, hstx⟩ | ⟨pre, mid, post, rfl, hetx, hstx, hmid⟩ := scanB_buffer_cases b
  · cases (scanB_incomplete hetx).symm.trans h
  · cases (scanB_no_stx hetx hstx).symm.trans h
  · rw [scanB_between hetx hstx hmid] at h
    split at h
    next => cases h
    next hgood =>
      cases h
      obtain ⟨hlen, hsep⟩ : 5 ≤ mid.length ∧ mid[mid.length - 5]? = some 0x23 := by simpa using hgood
      refine ⟨pre, post, ?_, by rw [List.length_drop]; omega⟩
      conv_lhs => rw [eq_append_of_getElem?_sub_five hlen hsep]
      simp only [List.append_assoc]

end Scan

/-! ### The outcomes (R150) -/

/-- Settles O46: an operation completes unless its scan finds no end of a frame (`hold`) or one of three branches of `FB.DEC` and
`BUF.PUT` is taken (`raise`); what `FB.DEC` found before it raised is read back from its scan. -/
theorem everyOperationEndsOkPendingOrFault : Obligations.EveryOperationEndsOkPendingOrFault := by
  refine ⟨rfl, rfl, rfl, fun i s => ?_⟩
  cases i with
  | x8Init | x8Upd _ | x8Hex | x8Sum | c16Init | c16Upd _ | c16Hex | c16Sum | faEnc | fbEnc | bufClr
  | stDecA _ | stDecB _ | stNoReply | sysReset => exact ⟨_, rfl, fun _ => .inl ⟨rfl, rfl⟩⟩
  | wireProbeA | wireProbeB | wireCancel => exact ⟨_, rfl, nofun⟩
  | x8Vfy =>
    cases h : verifyOperand 2 s.ibuf with
    | none => exact ⟨_, exec_x8Vfy_short h, fun _ => .inl ⟨rfl, rfl⟩⟩
    | some => exact ⟨_, exec_x8Vfy_split h, fun _ => .inl ⟨rfl, rfl⟩⟩
  | c16Vfy =>
    cases h : verifyOperand 4 s.ibuf with
    | none => exact ⟨_, exec_c16Vfy_short h, fun _ => .inl ⟨rfl, rfl⟩⟩
    | some => exact ⟨_, exec_c16Vfy_split h, fun _ => .inl ⟨rfl, rfl⟩⟩
  | faDec =>
    cases h : innerA s.ibuf with
    | none => exact ⟨_, exec_faDec_incomplete h, fun _ => .inr (.inl ⟨rfl, rfl, rfl, rfl, .inl rfl⟩)⟩
    | some => exact ⟨_, exec_faDec_inner h, fun _ => .inl ⟨rfl, rfl⟩⟩
  | fbDec =>
    cases h : scanB s.ibuf with
    | incomplete => exact ⟨_, exec_fbDec_incomplete h, fun _ => .inr (.inl ⟨rfl, rfl, rfl, rfl, .inr rfl⟩)⟩
    | malformed =>
      exact ⟨_, exec_fbDec_malformed h, fun _ => .inr (.inr ⟨rfl, rfl, rfl, rfl, rfl,
        .inr (.inl ⟨rfl, rfl, etx_mem_of_scanB_malformed h, rfl⟩)⟩)⟩
    | fields cmd tail =>
      cases hc : sameText (hex4 (crc16 cmd)) tail with
      | true => exact ⟨_, exec_fbDec_match h hc, fun _ => .inl ⟨rfl, rfl⟩⟩
      | false =>
        obtain ⟨pre, post, hframe, hlen⟩ := exists_frame_of_scanB_fields h
        exact ⟨_, exec_fbDec_mismatch h hc, fun _ => .inr (.inr ⟨rfl, rfl, rfl, rfl, rfl,
          .inl ⟨rfl, rfl, pre, cmd, tail, post, hframe, hlen, rfl, of_decide_eq_false hc⟩⟩)⟩
  | bufPut din =>
    cases h : s.inputFull with
    | true =>
      exact ⟨_, exec_bufPut_full h, fun _ => .inr (.inr ⟨rfl, rfl, rfl, rfl, rfl,
        .inr (.inr ⟨din, rfl, rfl, s.inputFull_iff.mp h⟩)⟩)⟩
    | false => exact ⟨_, exec_bufPut_room h, fun _ => .inl ⟨rfl, rfl⟩⟩

end Sys2Proof.Machine
end

section
/-! SUPPORT. The family `70_reset_and_hazards.md`: the reset values (R170) and the two occasions of a reset (R172). -/

namespace Sys2Proof.Machine

open Sys2Proof

theorem accept_of_decode {r : RawInstr} {i : Instr} (h : decode r = .ok i) (s : State) :
    accept (.instr r) s = exec i s := by
  simp only [accept, h]

theorem accept_hardwareReset (s : State) : accept .hardwareReset s = exec .sysReset s := rfl

theorem accept_sysReset_word (d : Byte) (s : State) :
    accept (.instr (.opw (0x1D#5 ++ d))) s = exec .sysReset s :=
  accept_of_decode (decode_append 0x1D d) s

/-- Settles O8: on both occasions the input taken acts as `SYS.RESET`, whose effect is `toReset`. -/
theorem hardwareResetAndSysResetAgree : Obligations.HardwareResetAndSysResetAgree := fun _ _ d =>
  ⟨(advance_cons rfl).trans (accept_hardwareReset _), (advance_cons rfl).trans (accept_sysReset_word d _)⟩

/-- Settles O57: `State.reset` has these values with the default configuration and no input waiting (log 4, log 1). -/
theorem resetLeavesTheListedValues : Obligations.ResetLeavesTheListedValues :=
  ⟨Config.default, [], rfl⟩

end Sys2Proof.Machine
end

section
/-! SUPPORT. The ends of every instruction, as one relation to split on (R48: each operation runs to completion). -/

namespace Sys2Proof.Machine

open Sys2Proof

/-- `Ends s i t`: issued in `s`, the instruction `i` ends in `t`. One constructor per branch of the instruction's meaning, with
what its scan of `IBUF` or its test of the capacity has found; `exec_ends` and `ends_of_exec` tie it to the model. -/
inductive Ends (s : State) : Instr → State → Prop
  | x8Init : Ends s .x8Init (s.setXacc xorSeed).complete
  | x8Upd (din : Byte) : Ends s (.x8Upd din) (s.setXacc (xor8Step s.xacc din)).complete
  | x8Hex : Ends s .x8Hex (s.deliver (hex2 s.xacc)).complete
  | x8Sum : Ends s .x8Sum ((s.setXacc (xor8 s.ibuf)).deliver (hex2 (xor8 s.ibuf))).complete
  | x8VfyShort (h : verifyOperand 2 s.ibuf = none) : Ends s .x8Vfy (s.setRes false).complete
  | x8VfySplit {bytes code : List Byte} (h : verifyOperand 2 s.ibuf = some (bytes, code)) :
      Ends s .x8Vfy ((s.setXacc (xor8 bytes)).setRes (sameText (hex2 (xor8 bytes)) code)).complete
  | c16Init : Ends s .c16Init (s.setCacc crcSeed).complete
  | c16Upd (din : Byte) : Ends s (.c16Upd din) (s.setCacc (Config.crc16Step s.cacc din)).complete
  | c16Hex : Ends s .c16Hex (s.deliver (hex4 s.cacc)).complete
  | c16Sum : Ends s .c16Sum ((s.setCacc (crc16 s.ibuf)).deliver (hex4 (crc16 s.ibuf))).complete
  | c16VfyShort (h : verifyOperand 4 s.ibuf = none) : Ends s .c16Vfy (s.setRes false).complete
  | c16VfySplit {bytes code : List Byte} (h : verifyOperand 4 s.ibuf = some (bytes, code)) :
      Ends s .c16Vfy ((s.setCacc (crc16 bytes)).setRes (sameText (hex4 (crc16 bytes)) code)).complete
  | faEnc : Ends s .faEnc ((s.setXacc (xor8 s.ibuf)).deliver (frameA s.ibuf)).complete
  | faDecIncomplete (h : innerA s.ibuf = none) : Ends s .faDec s.clearSplit.hold
  | faDecInner {inner : List Byte} (h : innerA s.ibuf = some inner) : Ends s .faDec (s.deliverInner inner).complete
  | fbEnc : Ends s .fbEnc ((s.setCacc (crc16 s.ibuf)).deliver (frameB s.ibuf)).complete
  | fbDecIncomplete (h : scanB s.ibuf = .incomplete) : Ends s .fbDec s.hold
  | fbDecMalformed (h : scanB s.ibuf = .malformed) : Ends s .fbDec (s.raise .frameMalformed)
  | fbDecMatch {cmd tail : List Byte} (h : scanB s.ibuf = .fields cmd tail)
      (hc : sameText (hex4 (crc16 cmd)) tail = true) : Ends s .fbDec ((s.setCacc (crc16 cmd)).deliver cmd).complete
  | fbDecMismatch {cmd tail : List Byte} (h : scanB s.ibuf = .fields cmd tail)
      (hc : sameText (hex4 (crc16 cmd)) tail = false) : Ends s .fbDec ((s.setCacc (crc16 cmd)).raise .checksumError)
  | stDecA (din : Byte) : Ends s (.stDecA din)
      ((s.setLinkA (maskedFlag din s.cfg.mskOnline) (maskedFlag din s.cfg.mskPaperEmpty)
        (maskedFlag din s.cfg.mskCtrlError)).setConnected true).complete
  | stDecB (din : Byte) : Ends s (.stDecB din)
      ((s.setLinkB (maskedFlag din s.cfg.mskFiscal) (maskedFlag din s.cfg.mskCmdOk)
        (maskedFlag din s.cfg.mskInTrans) (maskedFlag din s.cfg.mskXferOk)).setConnected true).complete
  | stNoReply : Ends s .stNoReply (s.setConnected false).complete
  | bufPutFull (din : Byte) (h : s.inputFull = true) : Ends s (.bufPut din) (s.raise .bufOverflow)
  | bufPutRoom (din : Byte) (h : s.inputFull = false) : Ends s (.bufPut din) (s.appendInput din).complete
  | bufClr : Ends s .bufClr s.clearBuffers.complete
  | sysReset : Ends s .sysReset s.toReset
  | wireProbeA : Ends s .wireProbeA s
  | wireProbeB : Ends s .wireProbeB s
  | wireCancel : Ends s .wireCancel s

/-- Every instruction ends: no arm of `exec` refuses or stops the model. -/
theorem exec_ends (i : Instr) (s : State) : ∃ t, exec i s = .next t ∧ Ends s i t := by
  cases i with
  | x8Init => exact ⟨_, rfl, .x8Init⟩
  | x8Upd din => exact ⟨_, rfl, .x8Upd din⟩
  | x8Hex => exact ⟨_, rfl, .x8Hex⟩
  | x8Sum => exact ⟨_, rfl, .x8Sum⟩
  | x8Vfy =>
    cases h : verifyOperand 2 s.ibuf with
    | none => exact ⟨_, exec_x8Vfy_short h, .x8VfyShort h⟩
    | some => exact ⟨_, exec_x8Vfy_split h, .x8VfySplit h⟩
  | c16Init => exact ⟨_, rfl, .c16Init⟩
  | c16Upd din => exact ⟨_, rfl, .c16Upd din⟩
  | c16Hex => exact ⟨_, rfl, .c16Hex⟩
  | c16Sum => exact ⟨_, rfl, .c16Sum⟩
  | c16Vfy =>
    cases h : verifyOperand 4 s.ibuf with
    | none => exact ⟨_, exec_c16Vfy_short h, .c16VfyShort h⟩
    | some => exact ⟨_, exec_c16Vfy_split h, .c16VfySplit h⟩
  | faEnc => exact ⟨_, rfl, .faEnc⟩
  | faDec =>
    cases h : innerA s.ibuf with
    | none => exact ⟨_, exec_faDec_incomplete h, .faDecIncomplete h⟩
    | some => exact ⟨_, exec_faDec_inner h, .faDecInner h⟩
  | fbEnc => exact ⟨_, rfl, .fbEnc⟩
  | fbDec =>
    cases h : scanB s.ibuf with
    | incomplete => exact ⟨_, exec_fbDec_incomplete h, .fbDecIncomplete h⟩
    | malformed => exact ⟨_, exec_fbDec_malformed h, .fbDecMalformed h⟩
    | fields cmd tail =>
      cases hc : sameText (hex4 (crc16 cmd)) tail with
      | true => exact ⟨_, exec_fbDec_match h hc, .fbDecMatch h hc⟩
      | false => exact ⟨_, exec_fbDec_mismatch h hc, .fbDecMismatch h hc⟩
  | stDecA din => exact ⟨_, rfl, .stDecA din⟩
  | stDecB din => exact ⟨_, rfl, .stDecB din⟩
  | stNoReply => exact ⟨_, rfl, .stNoReply⟩
  | bufPut din =>
    cases h : s.inputFull with
    | true => exact ⟨_, exec_bufPut_full h, .bufPutFull din h⟩
    | false => exact ⟨_, exec_bufPut_room h, .bufPutRoom din h⟩
  | bufClr => exact ⟨_, rfl, .bufClr⟩
  | sysReset => exact ⟨_, rfl, .sysReset⟩
  | wireProbeA => exact ⟨_, rfl, .wireProbeA⟩
  | wireProbeB => exact ⟨_, rfl, .wireProbeB⟩
  | wireCancel => exact ⟨_, rfl, .wireCancel⟩

theorem ends_of_exec {i : Instr} {s t : State} (h : exec i s = .next t) : Ends s i t := by
  obtain ⟨u, hu, hends⟩ := exec_ends i s
  cases hu.symm.trans h
  exact hends

/-- What a state can be that accepting one input answers. -/
theorem accept_eq_next_cases {h : HostInput} {s t : State} (ht : accept h s = .next t) :
    (h = .hardwareReset ∧ t = s.toReset) ∨
    (∃ r i, h = .instr r ∧ decode r = .ok i ∧ exec i s = .next t) ∨
    t = s.raise .illegalOp := by
  obtain ⟨rfl, he⟩ | ⟨r, i, rfl, hd, he⟩ | ⟨r, op, -, -, he⟩ | ⟨r, b, -, -, he⟩ := accept_cases h s <;> rw [he] at ht
  · cases ht; exact .inl ⟨rfl, rfl⟩
  · exact .inr (.inl ⟨r, i, rfl, hd, ht⟩)
  · cases ht; exact .inr (.inr rfl)
  · cases ht

end Sys2Proof.Machine
end

section
/-! SUPPORT. The invariant of the block (R15 to R17, R20, R21, R27, R158, R159): reset has it and every step keeps it. -/

namespace Sys2Proof.Machine

open Sys2Proof

/-- What of the invariant concerns the configuration and the buffers alone. The named writes keep it, and every way to end an
operation adds the part about the outcome. -/
structure BufferInv (s : State) : Prop where
  cfgLegal : s.cfg.legal = true
  bufWf : Memory.wf s = true
  plenLe : s.plen ≤ s.obuf.length

theorem StateInv.bufferInv {s : State} (h : StateInv s) : BufferInv s := ⟨h.cfgLegal, h.bufWf, h.plenLe⟩

namespace BufferInv

variable {s : State} (h : BufferInv s)
include h

theorem setXacc (v : Byte) : BufferInv (s.setXacc v) := ⟨h.cfgLegal, h.bufWf, h.plenLe⟩

theorem setCacc (v : Word16) : BufferInv (s.setCacc v) := ⟨h.cfgLegal, h.bufWf, h.plenLe⟩

theorem setRes (b : Bool) : BufferInv (s.setRes b) := ⟨h.cfgLegal, h.bufWf, h.plenLe⟩

theorem setLinkA (on pe ce : Bool) : BufferInv (s.setLinkA on pe ce) := ⟨h.cfgLegal, h.bufWf, h.plenLe⟩

theorem setLinkB (fi co it xo : Bool) : BufferInv (s.setLinkB fi co it xo) := ⟨h.cfgLegal, h.bufWf, h.plenLe⟩

theorem setConnected (b : Bool) : BufferInv (s.setConnected b) := ⟨h.cfgLegal, h.bufWf, h.plenLe⟩

theorem clearSplit : BufferInv s.clearSplit := ⟨h.cfgLegal, h.bufWf, h.plenLe⟩

/-- Nothing delivered is longer than a family B frame of the whole input buffer (R16). -/
theorem deliver {out : List Byte} (hlen : out.length ≤ s.ibuf.length + 7) : BufferInv (s.deliver out) :=
  ⟨h.cfgLegal, memory_wf_deliver hlen h.bufWf, le_rfl⟩

theorem deliverInner {x : List Byte} (hlen : x.length ≤ s.ibuf.length) : BufferInv (s.deliverInner x) where
  cfgLegal := by simpa using h.cfgLegal
  bufWf := memory_wf_deliverInner hlen h.bufWf
  plenLe := by simpa using s.deliverInner_plen_le x

theorem appendInput (b : Byte) (hroom : s.inputFull = false) : BufferInv (s.appendInput b) :=
  ⟨h.cfgLegal, memory_wf_appendInput hroom h.bufWf, h.plenLe⟩

theorem clearBuffers : BufferInv s.clearBuffers := ⟨h.cfgLegal, memory_wf_clearBuffers h.bufWf, le_rfl⟩

theorem complete : StateInv s.complete where
  cfgLegal := h.cfgLegal
  bufWf := h.bufWf
  plenLe := h.plenLe
  causeIff := by simp
  stickySet := by simp
  obufEmpty := by simp

theorem raise {c : Cause} (hc : c ≠ .none) : StateInv (s.raise c) where
  cfgLegal := h.cfgLegal
  bufWf := memory_wf_raise c h.bufWf
  plenLe := le_rfl
  causeIff := by simp [hc]
  stickySet := by simp
  obufEmpty := by simp

theorem hold : StateInv s.hold where
  cfgLegal := h.cfgLegal
  bufWf := memory_wf_hold h.bufWf
  plenLe := le_rfl
  causeIff := by simp
  stickySet := by simp
  obufEmpty := by simp

end BufferInv

/-- Reset needs nothing of the state but a legal configuration. -/
theorem stateInv_toReset {s : State} (h : s.cfg.legal = true) : StateInv s.toReset where
  cfgLegal := h
  bufWf := by simp [memory_wf_iff]
  plenLe := le_rfl
  causeIff := by simp
  stickySet := by simp
  obufEmpty := by simp

theorem exec_keeps_stateInv {i : Instr} {s t : State} (hs : StateInv s) (h : exec i s = .next t) : StateInv t := by
  have hb : BufferInv s := hs.bufferInv
  cases ends_of_exec h with
  | x8Init | x8Upd _ => exact (hb.setXacc _).complete
  | c16Init | c16Upd _ => exact (hb.setCacc _).complete
  | x8Hex | c16Hex => exact (hb.deliver (by simp)).complete
  | x8Sum | faEnc => exact ((hb.setXacc _).deliver (by simp)).complete
  | c16Sum | fbEnc => exact ((hb.setCacc _).deliver (by simp)).complete
  | x8VfyShort _ | c16VfyShort _ => exact (hb.setRes _).complete
  | x8VfySplit _ => exact ((hb.setXacc _).setRes _).complete
  | c16VfySplit _ => exact ((hb.setCacc _).setRes _).complete
  | faDecIncomplete _ => exact hb.clearSplit.hold
  | faDecInner hinner => exact (hb.deliverInner (innerA_length_le hinner)).complete
  | fbDecIncomplete _ => exact hb.hold
  | fbDecMalformed _ => exact hb.raise nofun
  | fbDecMatch hscan _ => exact ((hb.setCacc (crc16 _)).deliver (Nat.le_add_right_of_le (scanB_fields_length hscan))).complete
  | fbDecMismatch _ _ => exact (hb.setCacc _).raise nofun
  | stDecA _ => exact ((hb.setLinkA _ _ _).setConnected _).complete
  | stDecB _ => exact ((hb.setLinkB _ _ _ _).setConnected _).complete
  | stNoReply => exact (hb.setConnected _).complete
  | bufPutFull _ _ => exact hb.raise nofun
  | bufPutRoom _ hroom => exact (hb.appendInput _ hroom).complete
  | bufClr => exact hb.clearBuffers.complete
  | sysReset => exact stateInv_toReset hs.cfgLegal
  | wireProbeA | wireProbeB | wireCancel => exact hs

theorem accept_keeps_stateInv {h : HostInput} {s t : State} (hs : StateInv s) (ht : accept h s = .next t) : StateInv t := by
  obtain ⟨-, rfl⟩ | ⟨r, i, -, -, hexec⟩ | rfl := accept_eq_next_cases ht
  · exact stateInv_toReset hs.cfgLegal
  · exact exec_keeps_stateInv hs hexec
  · exact hs.bufferInv.raise nofun

/-- Settles O55: taking an input off the list touches no register, and accepting it keeps the invariant. -/
theorem invIsKeptByEveryStep : Obligations.InvIsKeptByEveryStep := by
  intro s t hs ht
  cases hp : s.pending with
  | nil => cases (advance_nil hp).symm.trans ht; exact hs
  | cons h rest =>
    have htaken : StateInv { s with pending := rest } :=
      ⟨hs.cfgLegal, hs.bufWf, hs.plenLe, hs.causeIff, hs.stickySet, hs.obufEmpty⟩
    exact accept_keeps_stateInv htaken ((advance_cons hp).symm.trans ht)

/-- Settles O56: such a state is the reset of itself. -/
theorem invHoldsAtReset : Obligations.InvHoldsAtReset := fun c inputs hc =>
  stateInv_toReset (s := { State.reset with cfg := c, pending := inputs }) hc

end Sys2Proof.Machine
end

section
/-! SUPPORT. What the instructions write (R10 to R12, R15 to R23, R26, R27) and what their results depend on (R42, R47, R155). -/

namespace Sys2Proof.Machine

open Sys2Proof

/-! ### The writers of each register -/

/-- Settles O47: at each end the registers written are those that its named writes show. -/
theorem registersAreWrittenOnlyByTheirOperations : Obligations.RegistersAreWrittenOnlyByTheirOperations := by
  intro i s
  obtain ⟨t, ht, hends⟩ := exec_ends i s
  refine ⟨t, ht, ?_⟩
  cases hends <;> simp [Instr.isOperation]

theorem exec_keeps_pending {i : Instr} {s t : State} (h : exec i s = .next t) : t.pending = s.pending := by
  obtain ⟨u, hu, -, hp, -⟩ := registersAreWrittenOnlyByTheirOperations i s
  cases hu.symm.trans h
  exact hp

/-! ### `OBUF` and `PLEN` are read by no operation (R42) -/

/-- The state with another output and every other register as it was. -/
def State.withOutput (s : State) (o : List Byte) (n : Nat) : State := { s with obuf := o, plen := n }

theorem State.deliverInner_withOutput (s : State) (o : List Byte) (n : Nat) (x : List Byte) :
    (s.withOutput o n).deliverInner x = s.deliverInner x := by
  unfold State.deliverInner
  split <;> rfl

/-- An instruction overwrites the output it finds, whatever that is, or hands it on. -/
theorem exec_withOutput (i : Instr) (s : State) : ∃ t, exec i s = .next t ∧
    ((∀ o n, exec i (s.withOutput o n) = .next t) ∨
      t.obuf = s.obuf ∧ t.plen = s.plen ∧ ∀ o n, exec i (s.withOutput o n) = .next (t.withOutput o n)) := by
  obtain ⟨t, ht, hends⟩ := exec_ends i s
  refine ⟨t, ht, ?_⟩
  cases hends with
  | x8Hex | x8Sum | c16Hex | c16Sum | faEnc | fbEnc | bufClr | sysReset => exact .inl fun _ _ => rfl
  | faDecIncomplete h => exact .inl fun _ _ => exec_faDec_incomplete h
  | faDecInner h =>
    refine .inl fun o n => ?_
    rw [exec_faDec_inner (s := s.withOutput o n) h, State.deliverInner_withOutput]
  | fbDecIncomplete h => exact .inl fun _ _ => exec_fbDec_incomplete h
  | fbDecMalformed h => exact .inl fun _ _ => exec_fbDec_malformed h
  | fbDecMatch h hc => exact .inl fun _ _ => exec_fbDec_match h hc
  | fbDecMismatch h hc => exact .inl fun _ _ => exec_fbDec_mismatch h hc
  | bufPutFull _ h => exact .inl fun _ _ => exec_bufPut_full h
  | x8Init | x8Upd _ | c16Init | c16Upd _ | stDecA _ | stDecB _ | stNoReply | wireProbeA | wireProbeB | wireCancel =>
    exact .inr ⟨rfl, rfl, fun _ _ => rfl⟩
  | x8VfyShort h => exact .inr ⟨rfl, rfl, fun _ _ => exec_x8Vfy_short h⟩
  | x8VfySplit h => exact .inr ⟨rfl, rfl, fun _ _ => exec_x8Vfy_split h⟩
  | c16VfyShort h => exact .inr ⟨rfl, rfl, fun _ _ => exec_c16Vfy_short h⟩
  | c16VfySplit h => exact .inr ⟨rfl, rfl, fun _ _ => exec_c16Vfy_split h⟩
  | bufPutRoom _ h => exact .inr ⟨rfl, rfl, fun _ _ => exec_bufPut_room h⟩

/-- Settles O49, by the two cases of `exec_withOutput`. -/
theorem outputBufferIsReadByNoOperation : Obligations.OutputBufferIsReadByNoOperation := by
  intro i s o n
  obtain ⟨t, ht, h | ⟨ho, hn, h⟩⟩ := exec_withOutput i s
  · exact ⟨t, t, ht, h o n, .inl rfl⟩
  · exact ⟨t, t.withOutput o n, ht, h o n, .inr ⟨ho, hn, rfl⟩⟩

/-! ### The eight buffer operations (R47, R155) -/

/-- The operations that work on the whole of `IBUF`: sums, verifies, encoders and decoders. -/
def bufferOperations : List Instr := [.x8Sum, .x8Vfy, .c16Sum, .c16Vfy, .faEnc, .faDec, .fbEnc, .fbDec]

/-- The next states `t` and `t'` of two runs of `i` agree in the results that `i` reports: the outcome, and `RES` of a verify or
the output of the others, with the split of `FA.DEC`. -/
def SameResults (i : Instr) (t t' : State) : Prop :=
  t.stat = t'.stat ∧ t.cause = t'.cause ∧
    (if i = .x8Vfy ∨ i = .c16Vfy then t.res = t'.res else t.obuf = t'.obuf ∧ t.plen = t'.plen) ∧
    (i = .faDec → t.rxchk = t'.rxchk ∧ t.split = t'.split)

theorem State.deliverInner_complete_idempotent (s : State) (x : List Byte) :
    ((s.deliverInner x).complete.deliverInner x).complete = (s.deliverInner x).complete := by
  unfold State.deliverInner
  split <;> rfl

theorem State.deliverInner_sameResults (s s' : State) (x : List Byte) :
    SameResults .faDec (s.deliverInner x).complete (s'.deliverInner x).complete := by
  unfold State.deliverInner
  split <;> simp [SameResults]

theorem exec_again {i : Instr} {s t : State} (hi : i ∈ bufferOperations) (ht : exec i s = .next t) :
    exec i t = .next t := by
  cases ends_of_exec ht with
  | x8Sum | c16Sum | faEnc | fbEnc => rfl
  | x8VfyShort h => exact exec_x8Vfy_short h
  | x8VfySplit h => exact exec_x8Vfy_split h
  | c16VfyShort h => exact exec_c16Vfy_short h
  | c16VfySplit h => exact exec_c16Vfy_split h
  | faDecIncomplete h => exact exec_faDec_incomplete h
  | faDecInner h => rw [exec_faDec_inner (by simpa using h), State.deliverInner_complete_idempotent]
  | fbDecIncomplete h => exact exec_fbDec_incomplete h
  | fbDecMalformed h => exact exec_fbDec_malformed h
  | fbDecMatch h hc => exact exec_fbDec_match h hc
  | fbDecMismatch h hc => exact exec_fbDec_mismatch h hc
  | _ => simp [bufferOperations] at hi

/-- Settles O51, by `exec_again`: none of the eight writes the input buffer it reads. -/
theorem repeatingAnOperationChangesNothing : Obligations.RepeatingAnOperationChangesNothing := by
  intro i s hi
  obtain ⟨t, ht, -⟩ := exec_ends i s
  exact ⟨t, ht, exec_again hi ht⟩

theorem exec_sameResults {i : Instr} {s s' t : State} (hi : i ∈ bufferOperations) (hibuf : s.ibuf = s'.ibuf)
    (ht : exec i s = .next t) : ∃ t', exec i s' = .next t' ∧ SameResults i t t' := by
  cases ends_of_exec ht with
  | x8Sum | c16Sum | faEnc | fbEnc => exact ⟨_, rfl, by simp [SameResults, hibuf]⟩
  | x8VfyShort h => exact ⟨_, exec_x8Vfy_short (hibuf ▸ h), by simp [SameResults]⟩
  | x8VfySplit h => exact ⟨_, exec_x8Vfy_split (hibuf ▸ h), by simp [SameResults]⟩
  | c16VfyShort h => exact ⟨_, exec_c16Vfy_short (hibuf ▸ h), by simp [SameResults]⟩
  | c16VfySplit h => exact ⟨_, exec_c16Vfy_split (hibuf ▸ h), by simp [SameResults]⟩
  | faDecIncomplete h => exact ⟨_, exec_faDec_incomplete (hibuf ▸ h), by simp [SameResults]⟩
  | faDecInner h => exact ⟨_, exec_faDec_inner (hibuf ▸ h), State.deliverInner_sameResults ..⟩
  | fbDecIncomplete h => exact ⟨_, exec_fbDec_incomplete (hibuf ▸ h), by simp [SameResults]⟩
  | fbDecMalformed h => exact ⟨_, exec_fbDec_malformed (hibuf ▸ h), by simp [SameResults]⟩
  | fbDecMatch h hc => exact ⟨_, exec_fbDec_match (hibuf ▸ h) hc, by simp [SameResults]⟩
  | fbDecMismatch h hc => exact ⟨_, exec_fbDec_mismatch (hibuf ▸ h) hc, by simp [SameResults]⟩
  | _ => simp [bufferOperations] at hi

/-- Settles O52, by `exec_sameResults`: both runs take the branch that the common input buffer fixes. -/
theorem resultsDependOnTheInputBufferOnly : Obligations.ResultsDependOnTheInputBufferOnly := by
  intro i s s' hi hibuf
  obtain ⟨t, ht, -⟩ := exec_ends i s
  obtain ⟨t', ht', hsame⟩ := exec_sameResults hi hibuf ht
  exact ⟨t, t', ht, ht', hsame⟩

end Sys2Proof.Machine
end


section
/-! SUPPORT. Encoding against decoding (R60, R61, R68 to R70, R78). -/

namespace Sys2Proof

/-! ### The line channel -/

/-- The three control bytes of R68 to R70. -/
def controlBytes : List Byte := [0x10, 0x05, 0x18]

theorem decode_wire_of_mem {b : Byte} (h : b ∈ controlBytes) : ∃ i, decode (.wire b) = .ok i := by
  simp only [controlBytes, List.mem_cons, List.not_mem_nil, or_false] at h
  obtain rfl | rfl | rfl := h
  · exact ⟨.wireProbeA, rfl⟩
  · exact ⟨.wireProbeB, rfl⟩
  · exact ⟨.wireCancel, rfl⟩

theorem decode_wire_of_not_mem {b : Byte} (h : b ∉ controlBytes) : decode (.wire b) = .error (.notAControlByte b) := by
  have hne : ∀ c ∈ controlBytes, b.toNat ≠ c.toNat := fun c hc heq => h (BitVec.eq_of_toNat_eq heq ▸ hc)
  simp only [decode, decodeWire]
  split
  next heq => exact absurd heq (hne 0x10 (by decide))
  next heq => exact absurd heq (hne 0x05 (by decide))
  next heq => exact absurd heq (hne 0x18 (by decide))
  next => rfl

theorem wellFormed_wire_iff (b : Byte) : (RawInstr.wire b).wellFormed = true ↔ b ∈ controlBytes := by
  simp [RawInstr.wellFormed, controlBytes, or_assoc]

/-! ### The operation interface -/

theorem wellFormed_opw_append_iff (op : BitVec 5) (d : Byte) :
    (RawInstr.opw (op ++ d)).wellFormed = true ↔ op ∉ reservedCodes := by
  simp [RawInstr.wellFormed]

theorem decode_opw_append_of_not_reserved {op : BitVec 5} (h : op ∉ reservedCodes) (d : Byte) :
    ∃ i, decode (.opw (op ++ d)) = .ok i := by
  obtain ⟨i, hi⟩ := (reserved_or_tabulated op d).resolve_left h
  exact ⟨i, (decode_append op d).trans (decodeFields_of_tabulated hi)⟩

theorem decode_opw_append_of_reserved {op : BitVec 5} (h : op ∈ reservedCodes) (d : Byte) :
    decode (.opw (op ++ d)) = .error (.reservedCode op) :=
  (decode_append op d).trans (decodeFields_of_reserved h d)

/-! ### Both channels -/

/-- What is ill formed decodes to an error and to no instruction. -/
theorem wellFormed_iff_decodes (r : RawInstr) : r.wellFormed = true ↔ ∃ i, decode r = .ok i := by
  cases r with
  | wire b =>
    rw [wellFormed_wire_iff]
    refine ⟨decode_wire_of_mem, fun ⟨i, hi⟩ => ?_⟩
    by_contra hb
    cases (decode_wire_of_not_mem hb).symm.trans hi
  | opw w =>
    rw [← append_op_din w, wellFormed_opw_append_iff]
    refine ⟨fun h => decode_opw_append_of_not_reserved h _, fun ⟨i, hi⟩ hop => ?_⟩
    cases (decode_opw_append_of_reserved hop _).symm.trans hi

/-- The encoder writes the code and the immediate that the decoder reads back; where the operation has no immediate, a zero that
the decoder ignores (log 12). -/
theorem decode_encode (i : Instr) : decode (encode i) = .ok i := by
  cases i with
  | x8Upd din | c16Upd din | stDecA din | stDecB din | bufPut din => exact decode_append _ din
  | wireProbeA | wireProbeB | wireCancel => rfl
  | _ => exact decode_append _ 0

/-- Settles O4: the encoding is well formed because it decodes. -/
theorem decodeOfEncodeIsTheInstruction : Obligations.DecodeOfEncodeIsTheInstruction := fun i =>
  ⟨decode_encode i, (wellFormed_iff_decodes _).mpr ⟨i, decode_encode i⟩⟩

/-- Settles O5: a code that is not reserved has a row of the table, hence no error. -/
theorem decodableExactlyWhenWellFormed : Obligations.DecodableExactlyWhenWellFormed := by
  refine ⟨wellFormed_iff_decodes, fun op d => ⟨fun h => decode_opw_append_of_reserved h d, fun h => ?_⟩⟩
  by_contra hop
  obtain ⟨i, hi⟩ := decode_opw_append_of_not_reserved hop d
  cases h.symm.trans hi

/-- Settles O1, by running the decoder on each word. -/
theorem tabulatedWordsDecode : Obligations.TabulatedWordsDecode :=
  ⟨rfl, rfl, rfl, rfl, rfl, rfl, rfl, rfl, rfl, rfl, rfl, rfl, rfl, rfl, rfl, rfl, rfl, rfl⟩

end Sys2Proof
end

section
/-! SUPPORT. One step: the input it takes, what it answers for each kind of input, and runs of steps (R48, R50, R155, R173). -/

namespace Sys2Proof.Machine

open Sys2Proof

theorem accept_of_unknown_byte {b : Byte} (h : b ∉ controlBytes) (s : State) :
    accept (.instr (.wire b)) s = .fault (.notAControlByte b) := by
  simp only [accept, decode_wire_of_not_mem h]

/-- Settles O7: the step is what `accept` makes of the input taken. -/
theorem stepRunsTheDecodedInstruction : Obligations.StepRunsTheDecodedInstruction := fun _ _ _ _ hp hd =>
  (advance_cons hp).trans (accept_of_decode hd _)

/-- Settles O9: no input, nothing to accept. -/
theorem idleStepChangesNothing : Obligations.IdleStepChangesNothing := fun _ => advance_nil

/-- Settles O10: the decoder rejects such a byte by name, and `accept` hands the name on. -/
theorem unknownLineByteStopsTheModel : Obligations.UnknownLineByteStopsTheModel := fun _ _ _ hp hb =>
  (advance_cons hp).trans (accept_of_unknown_byte hb _)

/-- Settles O35: the three arms of `exec` answer their state. -/
theorem controlBytesLeaveTheBlockUnchanged : Obligations.ControlBytesLeaveTheBlockUnchanged :=
  ⟨rfl, rfl, rfl, fun _ => ⟨rfl, rfl, rfl⟩⟩

/-- Settles O59: after reset as in any other state, the step decodes the encoding and runs the instruction to its end. -/
theorem anyOperationMayFollowReset : Obligations.AnyOperationMayFollowReset := by
  intro i c rest
  obtain ⟨t, ht, -⟩ := exec_ends i { State.reset with cfg := c, pending := rest }
  exact ⟨t, ht, ((advance_cons rfl).trans (accept_of_decode (decode_encode i) _)).trans ht⟩

/-! ### The waiting inputs -/

/-- Only a byte of the line is rejected as no control byte, and only one that is none. -/
theorem decode_eq_notAControlByte {r : RawInstr} {b : Byte} (h : decode r = .error (.notAControlByte b)) :
    r = .wire b ∧ b ∉ controlBytes := by
  cases r with
  | wire c =>
    have hc : c ∉ controlBytes := fun hc => by
      obtain ⟨i, hi⟩ := decode_wire_of_mem hc
      cases hi.symm.trans h
    cases (decode_wire_of_not_mem hc).symm.trans h
    exact ⟨rfl, hc⟩
  | opw w =>
    rw [← append_op_din w] at h
    by_cases hop : OpWord.op w ∈ reservedCodes
    · cases (decode_opw_append_of_reserved hop _).symm.trans h
    · obtain ⟨i, hi⟩ := decode_opw_append_of_not_reserved hop (OpWord.din w)
      cases hi.symm.trans h

theorem accept_keeps_pending {h : HostInput} {s t : State} (ht : accept h s = .next t) : t.pending = s.pending := by
  obtain ⟨-, rfl⟩ | ⟨r, i, -, -, hexec⟩ | rfl := accept_eq_next_cases ht
  · rfl
  · exact exec_keeps_pending hexec
  · rfl

/-- Every input but an unknown byte of the line is accepted. -/
theorem exists_accept_eq_next {h : HostInput} (hknown : ∀ b, h = .instr (.wire b) → b ∈ controlBytes) (s : State) :
    ∃ t, accept h s = .next t := by
  obtain ⟨-, he⟩ | ⟨r, i, -, -, he⟩ | ⟨r, op, -, -, he⟩ | ⟨r, b, rfl, hd, -⟩ := accept_cases h s
  · exact ⟨_, he⟩
  · obtain ⟨t, ht, -⟩ := exec_ends i s
    exact ⟨t, he.trans ht⟩
  · exact ⟨_, he⟩
  · obtain ⟨rfl, hb⟩ := decode_eq_notAControlByte hd
    exact absurd (hknown b rfl) hb

/-- Settles O11: the input is accepted, and accepting one leaves the others alone. -/
theorem stepTakesOneInputInOrder : Obligations.StepTakesOneInputInOrder := by
  intro s h rest hp hknown
  obtain ⟨t, ht⟩ := exists_accept_eq_next hknown { s with pending := rest }
  exact ⟨t, (advance_cons hp).trans ht, accept_keeps_pending ht⟩

/-! ### `FSTICKY` over runs (R160) -/

/-- Neither occasion of a reset (R172): the hardware reset, or a word of `SYS.RESET`. -/
def NoReset (h : HostInput) : Prop := h ≠ .hardwareReset ∧ ∀ d : Byte, h ≠ .instr (.opw (0x1D#5 ++ d))

theorem exec_keeps_fsticky {i : Instr} {s t : State} (hi : i ≠ .sysReset) (hs : s.fsticky = true)
    (ht : exec i s = .next t) : t.fsticky = true := by
  cases ends_of_exec ht with
  | sysReset => exact absurd rfl hi
  | _ => simp [hs]

theorem eq_sysReset_word {r : RawInstr} (h : decode r = .ok .sysReset) : ∃ d : Byte, r = .opw (0x1D#5 ++ d) := by
  cases r with
  | wire b =>
    simp only [decode, decodeWire] at h
    split at h <;> cases h
  | opw w =>
    obtain ⟨op, d, rfl, hrow⟩ := (decoderMatchesTheOperationTable w .sysReset).mp h
    obtain rfl : op = 0x1D := by simpa using hrow
    exact ⟨d, rfl⟩

theorem accept_keeps_fsticky {h : HostInput} {s t : State} (hreset : NoReset h) (hs : s.fsticky = true)
    (ht : accept h s = .next t) : t.fsticky = true := by
  obtain ⟨rfl, -⟩ | ⟨r, i, rfl, hd, hexec⟩ | rfl := accept_eq_next_cases ht
  · exact absurd rfl hreset.1
  · refine exec_keeps_fsticky ?_ hs hexec
    rintro rfl
    obtain ⟨d, rfl⟩ := eq_sysReset_word hd
    exact hreset.2 d rfl
  · rfl

theorem run_succ_eq_next {M : Host.Core} {n : Nat} {s t : M.State} (h : M.run (n + 1) s = .next t) :
    ∃ u, M.step s = .next u ∧ M.run n u = .next t := by
  unfold Host.Core.run at h
  split at h
  next u hu => exact ⟨u, hu, h⟩
  all_goals cases h

/-- Settles O53, by induction on the number of steps: each takes one input, which is no reset, and leaves the rest to the run
that follows. -/
theorem fstickyStaysUntilReset : Obligations.FstickyStaysUntilReset := by
  intro n
  induction n with
  | zero => intro s t hs _ hrun; cases hrun; exact hs
  | succ n ih =>
    intro s t hs hreset hrun
    obtain ⟨u, hstep, hrun⟩ := run_succ_eq_next hrun
    cases hp : s.pending with
    | nil =>
      cases (advance_nil hp).symm.trans hstep
      exact ih s t hs (by simp [hp]) hrun
    | cons h rest =>
      have hacc : accept h { s with pending := rest } = .next u := (advance_cons hp).symm.trans hstep
      have hrest : u.pending = rest := accept_keeps_pending hacc
      have hall : ∀ x ∈ h :: rest.take n, NoReset x := by rw [hp] at hreset; exact hreset
      have hu : u.fsticky = true :=
        accept_keeps_fsticky (s := { s with pending := rest }) (hall h List.mem_cons_self) hs hacc
      exact ih u t hu (fun x hx => hall x (List.mem_cons_of_mem h (hrest ▸ hx))) hrun

/-! ### The numbers of the outcome registers (R20, R21) -/

theorem statCode_lt (a : Stat) : (statCode a).toNat < 3 := by cases a <;> decide

theorem causeCode_lt (c : Cause) : (causeCode c).toNat < 5 := by cases c <;> decide

/-- Settles O58, value by value of the two registers. -/
theorem outcomeRegistersReadAsTheirNumbers : Obligations.OutcomeRegistersReadAsTheirNumbers := by
  refine fun s => ⟨?_, ?_, statCode_lt s.stat, causeCode_lt s.cause, rfl, rfl⟩
  · cases h : s.stat <;> simp [readReg, statCode, h]
  · cases h : s.cause <;> simp [readReg, causeCode, h]

end Sys2Proof.Machine
end


section
/-! SUPPORT. Laws of the primitives: the checksum text (R71, R107), the XOR-8 checksum (R96) and `strip_all` (R9). -/

namespace Sys2Proof.Machine

open Sys2Proof

/-! ### The checksum text -/

theorem hex2_append (a b : BitVec 4) : hex2 (a ++ b) = [hexDigit a, hexDigit b] := by
  rw [hex2, BitVec.extractLsb'_append_eq_left, BitVec.extractLsb'_append_eq_right]

theorem hex2_injective : Function.Injective hex2 := by
  intro v w h
  simp only [hex2, List.cons.injEq, and_true] at h
  rw [← BitVec.extractLsb'_append_extractLsb' (len := 4) (x := v), hexDigit_injective h.1, hexDigit_injective h.2,
    BitVec.extractLsb'_append_extractLsb' (len := 4) (x := w)]

/-- A slice of a slice is one slice. -/
theorem extractLsb'_of_extractLsb' {w start start' len len' : Nat} (x : BitVec w) (h : start' + len' ≤ len) :
    (x.extractLsb' start len).extractLsb' start' len' = x.extractLsb' (start + start') len' := by
  ext i hi
  have hlt : start' + i < len := by omega
  simp [hlt, Nat.add_assoc]

/-- The text of a word is the text of its high byte and then that of its low byte. -/
theorem hex4_eq_hex2_append (w : Word16) : hex4 w = hex2 (w.extractLsb' 8 8) ++ hex2 (w.extractLsb' 0 8) := by
  simp [hex4, hex2, extractLsb'_of_extractLsb']

theorem hex4_append (a b : Byte) : hex4 (a ++ b) = hex2 a ++ hex2 b := by
  rw [hex4_eq_hex2_append, BitVec.extractLsb'_append_eq_left, BitVec.extractLsb'_append_eq_right]

theorem hex4_injective : Function.Injective hex4 := by
  intro v w h
  rw [hex4_eq_hex2_append, hex4_eq_hex2_append] at h
  obtain ⟨hhigh, hlow⟩ := List.append_inj h rfl
  rw [← BitVec.extractLsb'_append_extractLsb' (len := 8) (x := v), hex2_injective hhigh, hex2_injective hlow,
    BitVec.extractLsb'_append_extractLsb' (len := 8) (x := w)]

theorem exists_hexDigit_eq {c : Byte} (h : (0x30 ≤ c.toNat ∧ c.toNat ≤ 0x39) ∨ (0x41 ≤ c.toNat ∧ c.toNat ≤ 0x46)) :
    ∃ n, hexDigit n = c := by
  revert c; decide

/-- Settles O42: four digits are the texts of two bytes, and these the text of the word that the bytes make up. -/
theorem hex4IsABijectionOntoUppercaseText : Obligations.Hex4IsABijectionOntoUppercaseText := by
  refine ⟨fun v w h => hex4_injective h, fun l hlen hdigits => ?_, by decide⟩
  match l, hlen with
  | [c3, c2, c1, c0], _ =>
    obtain ⟨n3, rfl⟩ := exists_hexDigit_eq (hdigits c3 (by simp))
    obtain ⟨n2, rfl⟩ := exists_hexDigit_eq (hdigits c2 (by simp))
    obtain ⟨n1, rfl⟩ := exists_hexDigit_eq (hdigits c1 (by simp))
    obtain ⟨n0, rfl⟩ := exists_hexDigit_eq (hdigits c0 (by simp))
    exact ⟨(n3 ++ n2) ++ (n1 ++ n0), by rw [hex4_append, hex2_append, hex2_append]; rfl⟩

/-! ### The XOR-8 checksum -/

theorem xor8_perm {s t : List Byte} (h : s.Perm t) : xor8 s = xor8 t := by
  have : RightCommutative xor8Step := ⟨fun a b c => by simp only [xor8Step]; ac_rfl⟩
  exact h.foldl_eq xorSeed

theorem xor8_append (s t : List Byte) : xor8 (s ++ t) = xor8 s ^^^ xor8 t ^^^ 0xFF := by
  induction t using List.reverseRecOn with
  | nil => rw [List.append_nil, xor8_nil, BitVec.xor_assoc, BitVec.xor_self, BitVec.xor_zero]
  | append_singleton t b ih =>
    rw [← List.append_assoc, xor8_snoc, xor8_snoc, ih]
    ac_rfl

/-- One byte counts the same wherever it stands. -/
theorem xor8_append_cons (s t : List Byte) (b : Byte) : xor8 (s ++ b :: t) = xor8 (s ++ t) ^^^ b := by
  rw [← xor8_snoc]
  exact xor8_perm (List.perm_middle.trans (List.perm_append_singleton b _).symm)

theorem xor8_cancel (s t u : List Byte) (b : Byte) : xor8 (s ++ [b] ++ t ++ [b] ++ u) = xor8 (s ++ t ++ u) := by
  have hshape : s ++ [b] ++ t ++ [b] ++ u = s ++ b :: (t ++ b :: u) := by simp
  rw [hshape, xor8_append_cons, ← List.append_assoc, xor8_append_cons, BitVec.xor_assoc, BitVec.xor_self,
    BitVec.xor_zero]

/-- Altering one byte alters the checksum by the same bits. -/
theorem xor8_set {s : List Byte} {i : Nat} {b : Byte} (h : s[i]? = some b) (m : Byte) :
    xor8 (s.set i (b ^^^ m)) = xor8 s ^^^ m := by
  obtain ⟨hi, rfl⟩ := List.getElem?_eq_some_iff.mp h
  calc xor8 (s.set i (s[i] ^^^ m))
      = xor8 (s.take i ++ s.drop (i + 1)) ^^^ (s[i] ^^^ m) := by
        rw [List.set_eq_take_cons_drop _ hi, xor8_append_cons]
    _ = xor8 (s.take i ++ s[i] :: s.drop (i + 1)) ^^^ m := by
        rw [xor8_append_cons, BitVec.xor_assoc]
    _ = xor8 s ^^^ m := by
        rw [← List.drop_eq_getElem_cons hi, List.take_append_drop]

theorem getLsbD_xorSeed {k : Nat} (hk : k < 8) : xorSeed.getLsbD k = true := by
  revert k; decide

theorem getLsbD_xor8 (s : List Byte) {k : Nat} (hk : k < 8) :
    (xor8 s).getLsbD k = true ↔ (s.countP fun b => b.getLsbD k) % 2 = 0 := by
  induction s using List.reverseRecOn with
  | nil => exact iff_of_true (getLsbD_xorSeed hk) rfl
  | append_singleton s b ih =>
    rw [xor8_snoc, BitVec.getLsbD_xor, List.countP_append, List.countP_singleton]
    cases b.getLsbD k with
    | false => simpa using ih
    | true =>
      rw [Bool.xor_true, Bool.not_eq_true', ← Bool.not_eq_true, ih, if_pos rfl]
      omega

/-- Settles O39, law by law: the fold does not see the order, and each byte and each bit enters it once. -/
theorem xor8IsAnOrderFreeParity : Obligations.Xor8IsAnOrderFreeParity := by
  refine ⟨fun _ _ => xor8_perm, xor8_append, xor8_cancel, fun s b => ?_, fun s k hk => getLsbD_xor8 s hk⟩
  rw [xor8_snoc, eq_comm (a := b)]
  exact BitVec.xor_eq_zero_iff

theorem twoPow_ne_zero {k : Nat} (hk : k < 8) : BitVec.twoPow 8 k ≠ 0 := by
  revert k; decide

/-- Settles O40: the flip alters the checksum by its bit, and different checksums have different texts. -/
theorem x8VfyDetectsEverySingleBitFlip : Obligations.X8VfyDetectsEverySingleBitFlip := by
  refine fun s bytes => ⟨fun h => ⟨_, exec_x8Vfy_of_append h (hex2_length _), by simp⟩, fun i k b hb hk h => ?_⟩
  refine ⟨_, exec_x8Vfy_of_append h (hex2_length _), ?_, rfl⟩
  rw [xor8_set hb]
  refine decide_eq_false fun htext => twoPow_ne_zero hk ?_
  simpa using hex2_injective htext

/-! ### Stripping -/

/-- Settles O37, by the two lemmas on where the pair stands. -/
theorem stripAllRemovesLeftmostOccurrences : Obligations.StripAllRemovesLeftmostOccurrences := fun _ _ _ =>
  ⟨stripAll_of_pairFree, fun _ => stripAll_of_first_pairAt⟩

end Sys2Proof.Machine
end

section
/-! SUPPORT. The flags of a status byte with the default masks (R136). -/

namespace Sys2Proof.Machine

open Sys2Proof

/-- A mask of one bit selects that bit. -/
theorem maskedFlag_twoPow (d : Byte) {k : Nat} (hk : k < 8) : maskedFlag d (BitVec.twoPow 8 k) = d.getLsbD k := by
  rw [maskedFlag, BitVec.and_twoPow]
  cases d.getLsbD k with
  | false => rfl
  | true => exact decide_eq_true (twoPow_ne_zero hk)

theorem getLsbD_eq_maskedFlag {d msk : Byte} {k : Nat} (hk : k < 8) (hmsk : msk = BitVec.twoPow 8 k) :
    d.getLsbD k = maskedFlag d msk := by
  rw [hmsk, maskedFlag_twoPow d hk]

/-- Settles O30: each default mask is one bit of the status byte. -/
theorem defaultMasksDecodeTheLowBits : Obligations.DefaultMasksDecodeTheLowBits := by
  intro s d cap hcfg
  constructor
  · have hon : d.getLsbD 2 = _ := getLsbD_eq_maskedFlag (by decide) (congrArg Config.mskOnline hcfg)
    have hpe : d.getLsbD 1 = _ := getLsbD_eq_maskedFlag (by decide) (congrArg Config.mskPaperEmpty hcfg)
    have hce : d.getLsbD 0 = _ := getLsbD_eq_maskedFlag (by decide) (congrArg Config.mskCtrlError hcfg)
    rw [hon, hpe, hce]
    exact stDecaDecodesStatusByteA.2 s d
  · have hfi : d.getLsbD 3 = _ := getLsbD_eq_maskedFlag (by decide) (congrArg Config.mskFiscal hcfg)
    have hco : d.getLsbD 2 = _ := getLsbD_eq_maskedFlag (by decide) (congrArg Config.mskCmdOk hcfg)
    have hit : d.getLsbD 1 = _ := getLsbD_eq_maskedFlag (by decide) (congrArg Config.mskInTrans hcfg)
    have hxo : d.getLsbD 0 = _ := getLsbD_eq_maskedFlag (by decide) (congrArg Config.mskXferOk hcfg)
    rw [hfi, hco, hit, hxo]
    exact stDecbDecodesStatusByteB.2 s d

end Sys2Proof.Machine
end

section
/-! SUPPORT. The shorthand forms of R84 as folds, and the round trips of the two frame families (R114, R124). -/

namespace Sys2Proof.Machine

open Sys2Proof

/-! ### Sequences of one operation per byte -/

theorem execAll_cons {i : Instr} {rest : List Instr} {s t : State} (h : exec i s = .next t) :
    execAll (i :: rest) s = execAll rest t := by
  simp only [execAll, h]

/-- `g done` is the state once the operations for the bytes `done` have run: if each further byte takes one to the next, the
whole sequence runs. -/
theorem execAll_map {op : Byte → Instr} {g : List Byte → State} {bytes : List Byte}
    (h : ∀ done b, done ++ [b] <+: bytes → exec (op b) (g done) = .next (g (done ++ [b]))) :
    execAll (bytes.map op) (g []) = .next (g bytes) := by
  induction bytes using List.reverseRecOn with
  | nil => rfl
  | append_singleton front b ih =>
    have hfront : execAll (front.map op) (g []) = .next (g front) :=
      ih fun done c hpre => h done c (hpre.trans (List.prefix_append front [b]))
    rw [List.map_append]
    exact execAll_snoc _ _ _ _ _ hfront (h front b List.prefix_rfl)

theorem execAll_x8Stream (s : State) (bytes : List Byte) :
    execAll (x8Stream bytes) s = .next (s.setXacc (xor8 bytes)).complete := by
  refine (execAll_cons rfl).trans (execAll_map (g := fun done => (s.setXacc (xor8 done)).complete) fun done b _ => ?_)
  rw [xor8_snoc]
  rfl

/-- Settles O38: the streaming form is the fold byte by byte, and the buffer form is the fold by definition. -/
theorem x8StreamAndSumComputeXor8 : Obligations.X8StreamAndSumComputeXor8 := fun s bytes =>
  ⟨execAll_x8Stream s bytes, _, rfl, rfl, rfl⟩

theorem execAll_c16Stream (s : State) (bytes : List Byte) :
    execAll (c16Stream bytes) s = .next (s.setCacc (crc16 bytes)).complete := by
  refine (execAll_cons rfl).trans (execAll_map (g := fun done => (s.setCacc (crc16 done)).complete) fun done b _ => ?_)
  rw [crc16_snoc]
  rfl

/-- Settles O41, as for the XOR-8; the step is applied and never looked into (log 5). -/
theorem c16StreamAndSumComputeCrc16 : Obligations.C16StreamAndSumComputeCrc16 := fun s bytes _ =>
  ⟨execAll_c16Stream s bytes, ⟨_, rfl, rfl, rfl⟩, List.foldl_append⟩

/-! ### `LOAD` -/

/-- The state after `LOAD bytes`. -/
def State.loaded (s : State) (bytes : List Byte) : State :=
  { s with ibuf := bytes, obuf := [], plen := 0, split := false, stat := .ok, cause := .none }

theorem execAll_load {s : State} {bytes : List Byte} (hfits : fitsInput s bytes.length) :
    execAll (load bytes) s = .next (s.loaded bytes) := by
  refine (execAll_cons rfl).trans (execAll_map (g := s.loaded) fun done b hpre => ?_)
  have hlen : done.length + 1 ≤ bytes.length := by simpa using hpre.length_le
  refine exec_bufPut_room ((s.loaded done).inputFull_eq_false_iff.mpr fun hcap => ?_)
  have hle : bytes.length ≤ done.length := hfits _ hcap
  omega

/-- Settles O43: before each byte of the sequence there is room, since the whole of it fits. -/
theorem loadFillsTheInputBuffer : Obligations.LoadFillsTheInputBuffer := fun _ _ hfits => execAll_load hfits

theorem execAll_load_then {s t : State} {bytes : List Byte} {i : Instr} (hfits : fitsInput s bytes.length)
    (h : exec i (s.loaded bytes) = .next t) : execAll (load bytes ++ [i]) s = .next t :=
  execAll_snoc _ _ _ _ _ (execAll_load hfits) h

/-! ### Family A -/

theorem esc_not_mem_hex2 (v : Byte) : escA ∉ hex2 v := by
  have hdigit (n : BitVec 4) : escA ≠ hexDigit n := (hexDigit_ne_marker n).1.symm
  simp [hex2, hdigit]

theorem pairFree_of_not_mem {p q : Byte} {x : List Byte} (h : p ∉ x) : pairFree p q x := fun _ _ hat =>
  h (List.mem_of_getElem? hat.1)

/-- A checksum text behind a payload makes no marker: it holds no first byte of one, and begins with no second byte. -/
theorem markerFreeA_append_hex2 {x : List Byte} (h : markerFreeA x) (v : Byte) : markerFreeA (x ++ hex2 v) := by
  obtain ⟨-, hopen, hclose, -⟩ := hexDigit_ne_marker (v.extractLsb' 4 4)
  exact ⟨pairFree_append h.1 (pairFree_of_not_mem (esc_not_mem_hex2 v)) fun ⟨_, hhead⟩ => hopen (Option.some.inj hhead),
    pairFree_append h.2 (pairFree_of_not_mem (esc_not_mem_hex2 v)) fun ⟨_, hhead⟩ => hclose (Option.some.inj hhead)⟩

/-- Settles O44: the frame of a marker-free payload is an envelope around a marker-free sequence, the payload with its checksum
text, whose last two bytes `FA.DEC` splits off. -/
theorem familyARoundTrip : Obligations.FamilyARoundTrip := by
  intro s x hfree hfits
  have hload : fitsInput s x.length := fun n hn => Nat.le_of_add_right_le (hfits n hn)
  refine ⟨_, _, execAll_load_then hload (faEncWrapsThePayload.2 _),
    execAll_load_then ?_ (faDecNeverComparesTheChecksum.1 _ x _ _ (markerFreeA_append_hex2 hfree (xor8 x)) rfl),
    rfl, rfl, rfl, List.take_left, rfl, rfl⟩
  simpa [State.loaded] using hfits

/-! ### Family B -/

theorem etx_not_mem_hex4 (w : Word16) : etxB ∉ hex4 w := by
  have hdigit (n : BitVec 4) : etxB ≠ hexDigit n := by
    obtain ⟨-, -, -, -, hetx, -⟩ := hexDigit_ne_marker n
    exact hetx.symm
  simp [hex4, hdigit]

/-- On the frame of a command-string without `03` the scan finds its fields, and the CRC text is the one compared with. -/
theorem exec_fbDec_frameB {s : State} {x : List Byte} (hx : (0x03 : Byte) ∉ x) (hibuf : s.ibuf = frameB x) :
    exec .fbDec s = .next { s with cacc := crc16 x, obuf := x, plen := x.length, stat := .ok, cause := .none } := by
  have hscan : scanB s.ibuf = .fields x (hex4 (crc16 x)) := by
    rw [hibuf]
    have h := scanB_frame (pre := []) (post := []) (hex4_length (crc16 x)) List.not_mem_nil List.not_mem_nil hx
      (etx_not_mem_hex4 (crc16 x))
    rwa [List.append_nil, List.nil_append] at h
  exact (exec_fbDec_of_fields hscan).trans (if_pos rfl)

/-- Settles O45: `LOAD` and both operations keep `FSTICKY`, and the check of the frame compares a checksum text with itself. -/
theorem familyBRoundTrip : Obligations.FamilyBRoundTrip := by
  intro s x hx hfits
  have hload : fitsInput s x.length := fun n hn => Nat.le_of_add_right_le (hfits n hn)
  refine ⟨_, _, execAll_load_then hload (fbEncWrapsTheCommandString.2 _),
    execAll_load_then ?_ (exec_fbDec_frameB hx rfl), rfl, rfl, rfl, rfl, rfl, rfl, rfl⟩
  simpa [State.loaded] using hfits

end Sys2Proof.Machine
end
